-- ==== Sys2Proof/Word.lean ====
section
/-! DEFINITION. The widths in which the station's ports carry data. -/

namespace Sys2Proof

/-- One byte, as the recorder port and the sensor port carry it. -/
abbrev Byte := BitVec 8

/-- A 16-bit field of a frame, a record or the configuration block. -/
abbrev Half := BitVec 16

/-- A 32-bit field: a post index or a track post. -/
abbrev Word := BitVec 32

end Sys2Proof
end

