-- ==== Sys2Proof/Syntax.lean ====
section
/-! DEFINITION. The commands of the station: one constructor of `Instr` for each row of spec/opcode_table.json,
with the operands the rules of spec/ give that row. A recorder command with parameters carries the parameter bytes
clocked in, in the order they come; the row is well formed with as many as R198 gives the command. -/

namespace Sys2Proof

/-- The two paint nozzles and their valves (R154, R160). -/
inductive Nozzle where
  | left
  | right
  deriving DecidableEq, Repr

/-- The two tachometer inputs (R1). -/
inductive TachLine where
  | tacA
  | tacB
  deriving DecidableEq, Repr

/-- The levels of the two tachometer inputs (R1). -/
structure TachLevels where
  tacA : Bool
  tacB : Bool
  deriving DecidableEq, Repr

/-- One byte formed from the levels of SDATA, with the level found at its stop bit (R49, R50). -/
structure RxByte where
  data : Byte
  stopHigh : Bool
  deriving DecidableEq, Repr

/-- The fields of a MARK frame after its start bit and kind bit (R28): bits 2 to 54 as they are on the bus. -/
structure MarkFrame where
  sender : BitVec 3
  post : Word
  crc : Half
  /-- the two end bits, 3 when both are released -/
  ending : BitVec 2
  deriving DecidableEq, Repr

/-- The fields of a SAMPLE frame after its start bit and kind bit (R28): bits 2 to 134 as they are on the bus. -/
structure SampleFrame where
  sender : BitVec 3
  post : Word
  yA : Half
  zL : Half
  zR : Half
  cant : Half
  /-- one bit each for yA, zL, zR, C, yA first (most significant) -/
  presence : BitVec 4
  /-- three bits each for yA, zL, zR, C, in each group HELD, CLIPPED, CLAMPED -/
  flags : BitVec 12
  crc : Half
  /-- the two end bits, 3 when both are released -/
  ending : BitVec 2
  deriving DecidableEq, Repr

/-- The station's commands: operations of the recorder and events on its pins and buses.
Each docstring names the rule that gives the row its effect. -/
inductive Instr where
  /-- POWER_ON_RESET, R181: RESETN is taken low. -/
  | powerOnReset
  /-- RESETN_RELEASE, R181, R1, R195: RESETN is released while the tachometer inputs stand at `levels`; `selected` says that RSEL
  is low at that moment. -/
  | resetnRelease (levels : TachLevels) (selected : Bool)
  /-- SELF_TEST_END, R182: the memory test ends; bit n of `failed` names memory n in the order of R199. -/
  | selfTestEnd (failed : BitVec 5)
  /-- TACH_EDGE, R1: exactly the given line has changed. -/
  | tachEdge (line : TachLine)
  /-- BURST_END, R49: an idle gap completes on SDATA. `levels` are those of the line, one for each bit time, true being
  high, up to the completion of the gap: from the burst's first start bit on when `gapBefore` says that a complete idle
  gap lay before it, and since the end of SELF_TEST when none did (R52). -/
  | burstEnd (levels : List Bool) (gapBefore : Bool)
  /-- STALE, R55: the sensor age passes the stale limit. -/
  | stale
  /-- BUS_IDLE_GAP, R27: the bus has been released for 12 bit times. -/
  | busIdleGap
  /-- ARBITRATION_LOST, R29: at frame bit `bit` the station reads driven where it sent released. -/
  | arbitrationLost (bit : Nat)
  /-- TRANSMIT_ERROR, R30, R31: the read-back of frame bit `bit` differs from the bit sent. -/
  | transmitError (bit : Nat)
  /-- OWN_MARK_COMPLETION, R13: the station's own mark ends without error. -/
  | ownMarkCompletion
  /-- OWN_SAMPLE_SENT, R39: the station's own sample ends without error. -/
  | ownSampleSent
  /-- MARK_FRAME, R40, R41: a received MARK frame ends. -/
  | markFrame (frame : MarkFrame)
  /-- SAMPLE_FRAME, R40, R42: a received SAMPLE frame ends. -/
  | sampleFrame (frame : SampleFrame)
  /-- VALVE_EXPIRY, R160: the remaining time of the valve reaches 0. -/
  | valveExpiry (nozzle : Nozzle)
  /-- IDENTIFY, R199. -/
  | identify
  /-- READ_STATUS, R200. -/
  | readStatus
  /-- LOAD_CONFIG, R188: the parameters are the configuration block. -/
  | loadConfig (block : List Byte)
  /-- ARM, R191. -/
  | arm
  /-- DISARM, R192. -/
  | disarm
  /-- RESYNC, R193. -/
  | resync
  /-- TAKE_RESULTS, R118: one parameter, n. -/
  | takeResults (params : List Byte)
  /-- RECORD_SHIFTED_OUT, R119: byte 39 of the head record has been shifted out. -/
  | recordShiftedOut
  /-- TAKE_RUNS, R148: one parameter, n. -/
  | takeRuns (params : List Byte)
  /-- RUN_SHIFTED_OUT, R149: byte 27 of the head run has been shifted out. -/
  | runShiftedOut
  /-- ACKNOWLEDGE, R175. -/
  | acknowledge
  /-- END_SERVICE, R176: one parameter, a source number or 255. -/
  | endService (params : List Byte)
  /-- SET_MASK, R170: one parameter, the mask. -/
  | setMask (params : List Byte)
  /-- SET_MODES, R177: one parameter, the modes. -/
  | setModes (params : List Byte)
  /-- CLEAR_PENDING, R178: one parameter, a source number. -/
  | clearPending (params : List Byte)
  /-- HISTORY_WINDOW, R201: eight parameters, the four bytes of the start and the four of the end track post. -/
  | historyWindow (first last : List Byte)
  /-- HISTORY_READ, R203: one parameter, n. -/
  | historyRead (params : List Byte)
  /-- HISTORY_ENTRY_LOOKUP, R203: the kind byte of the next entry begins to be sent. -/
  | historyEntryLookup
  /-- HISTORY_ENTRY_SHIFTED_OUT, R203, R204: the last byte of the entry has been shifted out. -/
  | historyEntryShiftedOut
  /-- UNKNOWN_COMMAND, R197: a command byte that names no command of R198. -/
  | unknownCommand (code : Byte)
  /-- DESELECT, R195: RSEL is taken high. -/
  | deselect
  /-- BOTH_LINES_CHANGED, R1: TACA and TACB have both changed between two observations. -/
  | bothLinesChanged
  deriving DecidableEq, Repr

end Sys2Proof
end

