-- ==== Sys2Proof/Decode.lean ====
section
/-! DEFINITION. How bits on RDI become bytes (R195) and levels on SDATA bytes and bursts (R49), the command list (R198), the command that the bytes of a transaction
name, and the command that a word spells: the bits that R198 gives the recorder's commands. No rule gives the other rows
bits, and the opcode table gives none to any row (assumption log 24). -/

namespace Sys2Proof

/-! ### Bits to bytes (R195) -/

/-- The bytes that the bits sampled on RDI make: groups of eight from the start of the transaction, most significant bit
first; an incomplete byte is discarded (R195). -/
def rdiBytes : List Bool → List Byte
  | b7 :: b6 :: b5 :: b4 :: b3 :: b2 :: b1 :: b0 :: rest =>
    BitVec.ofBoolListBE [b7, b6, b5, b4, b3, b2, b1, b0] :: rdiBytes rest
  | _ => []

/-! ### Levels to bytes and bursts (R49) -/

/-- The bursts that complete while SDATA goes through the given levels, one for each bit time (R49). `high` is the level
before the first of them, `gap` how many bit times the line has been high since the last byte, and `bytes` what the burst
in progress holds. A low level on a high line is a start bit; eight data bits follow, least significant first, and the
stop bit. The burst ends when the line has been high for 20 bit times after its last byte. That the gap is counted from
the end of a byte, and that after a low stop bit the line is high before the next start bit, is the model's reading
(assumption log 30). -/
def burstsFrom : Bool → Nat → List RxByte → List Bool → List (List RxByte)
  | _, gap, bytes, true :: rest =>
    if 19 ≤ gap && !bytes.isEmpty then bytes :: burstsFrom true 0 [] rest else burstsFrom true (gap + 1) bytes rest
  | true, _, bytes, false :: b0 :: b1 :: b2 :: b3 :: b4 :: b5 :: b6 :: b7 :: stop :: rest =>
    let byte : RxByte := { data := BitVec.ofBoolListLE [b0, b1, b2, b3, b4, b5, b6, b7], stopHigh := stop }
    burstsFrom stop 0 (bytes ++ [byte]) rest
  | false, _, bytes, false :: rest => burstsFrom false 0 bytes rest
  | _, _, _, _ => []

/-- The bursts that complete on SDATA from an idle line on (R49). -/
def sdataBursts (levels : List Bool) : List (List RxByte) := burstsFrom true 0 [] levels

/-- What follows the first stretch of 20 high bit times, `gap` of them already counted; none while no idle gap completes.
Any high level counts, since a receiver that waits for an idle gap forms no bytes (R49, R52; assumption log 11). -/
def afterIdleGap : Nat → List Bool → Option (List Bool)
  | _, [] => none
  | gap, true :: rest => if 19 ≤ gap then some rest else afterIdleGap (gap + 1) rest
  | _, false :: rest => afterIdleGap 0 rest

/-! ### The command list (R198) -/

/-- The command bytes of R198, each with the number of parameter bytes its command takes. -/
def commandList : List (Byte × Nat) :=
  [(1, 0), (2, 0), (16, 183), (17, 0), (18, 0), (19, 0), (32, 1), (33, 1),
   (48, 0), (49, 1), (50, 1), (51, 1), (52, 1), (64, 8), (65, 1)]

/-- The command byte names a command of R198. -/
def namesCommand (code : Byte) : Bool := commandList.any fun row => row.1 == code

/-- How many parameter bytes follow a command byte; a byte that names no command is taken as a command with none
(R197, R198). -/
def paramCount (code : Byte) : Nat := ((commandList.find? fun row => row.1 == code).map Prod.snd).getD 0

/-- The command that a command byte names, with the parameter bytes after it (R197, R198). -/
def commandOfCode (code : Byte) (params : List Byte) : Instr :=
  match code.toNat with
  | 1 => .identify
  | 2 => .readStatus
  | 16 => .loadConfig params
  | 17 => .arm
  | 18 => .disarm
  | 19 => .resync
  | 32 => .takeResults params
  | 33 => .takeRuns params
  | 48 => .acknowledge
  | 49 => .endService params
  | 50 => .setMask params
  | 51 => .setModes params
  | 52 => .clearPending params
  | 64 => .historyWindow (params.take 4) (params.drop 4)
  | 65 => .historyRead params
  | _ => .unknownCommand code

/-- The command that the bytes of a transaction name, the first byte being the command byte; none before it is complete
(R196, R198). -/
def commandOf : List Byte → Option Instr
  | [] => none
  | code :: params => some (commandOfCode code params)

/-- The bytes by which the recorder sends a command of R198: command byte and parameters; none for the other rows. -/
def commandBytes : Instr → Option (List Byte)
  | .identify => some [1]
  | .readStatus => some [2]
  | .loadConfig block => some (16 :: block)
  | .arm => some [17]
  | .disarm => some [18]
  | .resync => some [19]
  | .takeResults params => some (32 :: params)
  | .takeRuns params => some (33 :: params)
  | .acknowledge => some [48]
  | .endService params => some (49 :: params)
  | .setMask params => some (50 :: params)
  | .setModes params => some (51 :: params)
  | .clearPending params => some (52 :: params)
  | .historyWindow first last => some (64 :: (first ++ last))
  | .historyRead params => some (65 :: params)
  | .powerOnReset | .resetnRelease _ _ | .selfTestEnd _ | .tachEdge _ | .burstEnd _ _ | .stale | .busIdleGap
  | .arbitrationLost _ | .transmitError _ | .ownMarkCompletion | .ownSampleSent | .markFrame _ | .sampleFrame _
  | .valveExpiry _ | .recordShiftedOut | .runShiftedOut | .historyEntryLookup | .historyEntryShiftedOut
  | .unknownCommand _ | .deselect | .bothLinesChanged => none

/-! ### Words -/

/-- Byte `i` of a word whose bit 0 is the least significant bit of its first byte. -/
def wordByte (w i : Nat) : Byte := BitVec.ofNat 8 (w >>> (8 * i))

/-- The command that a word of `nbits` bits spells: its first byte is the command byte, the next ones are as many
parameter bytes as that command takes (R198); none in fewer bits than a byte (assumption log 24). -/
def decodeTableWord (nbits w : Nat) : Option Instr :=
  if nbits < 8 then none
  else commandOf (wordByte w 0 :: (List.range (paramCount (wordByte w 0))).map fun i => wordByte w (i + 1))

end Sys2Proof
end

