-- ==== Sys2Proof/Machine/State.lean ====
section
/-! DEFINITION. The state of the station, block by block as spec/00_scope.md names the blocks, and the state right
after power-on reset. Every field cites the rule that names it; INVENTORY.md lists them with their reset values. -/

namespace Sys2Proof.Machine

/-! ### Values and samples -/

/-- The three flags a present displacement value may carry (spec/00_scope.md, Optional values and flags). -/
structure Flags where
  held : Bool
  clipped : Bool
  clamped : Bool
  deriving DecidableEq, Repr

/-- A present displacement value in dc with its flags. Absence is `none` of `Option Value`. -/
structure Value where
  dc : Int
  flags : Flags
  deriving DecidableEq, Repr

/-- The four values a station sends and a peer can use (R28, R68). -/
structure Sample where
  yA : Option Value
  zL : Option Value
  zR : Option Value
  cant : Option Value
  deriving DecidableEq, Repr

/-- What fills a slot of a row: a sample, and in the own slot the gauge deviation as well (R68). -/
structure Slot where
  sample : Sample
  gdev : Option Value
  deriving DecidableEq, Repr

/-- One thing for each converter channel, in the order of the converter frame (03, section 3.1). -/
structure Channels (α : Type) where
  gL : α
  gR : α
  zL : α
  zR : α
  rho : α
  deriving DecidableEq, Repr

/-! ### The effective configuration (R185 to R187) -/

/-- Calibration constants of one channel (R56). -/
structure Calibration where
  offset : Int
  gain : Nat
  deriving DecidableEq, Repr

/-- The value of a sample that a chord uses (R90). -/
inductive Quantity where
  | alignment
  | topLeft
  | topRight
  deriving DecidableEq, Repr

/-- A chord of the measurement plan (R90): front and rear station, distances a and b in posts, quantity, scale k. -/
structure Chord where
  front : Fin 8
  rear : Fin 8
  a : Nat
  b : Nat
  quantity : Quantity
  k : Nat
  deriving DecidableEq, Repr

/-- A twist of the measurement plan (R91). -/
inductive Twist where
  | partner (station : Fin 8)
  | history (base : Nat)
  deriving DecidableEq, Repr

/-- The value of a record that a tracked measure watches (R127). -/
inductive Measure where
  | gdev
  | cant
  | chord (i : Fin 4)
  | twist (j : Fin 2)
  deriving DecidableEq, Repr

/-- A tracked measure with its effective values (R127, R128). -/
structure TrackedMeasure where
  measure : Measure
  nominal : Int
  l1 : Nat
  l2 : Nat
  l3 : Nat
  h : Nat
  g : Nat
  m : Nat
  deriving DecidableEq, Repr

/-- Where a nozzle marks a run (R142, R143, R154). -/
inductive Anchor where
  | start
  | peak
  deriving DecidableEq, Repr

/-- A fitted nozzle with its effective values (R154). Bit i of the mask stands for tracked measure i + 1. -/
structure NozzleConfig where
  offset : Nat
  minClass : Nat
  anchor : Anchor
  pulse : Nat
  mask : Byte
  deriving DecidableEq, Repr

/-- The effective values of an accepted configuration block, and the needed set formed from it (R187, R70). -/
structure StationConfig where
  station : Fin 8
  carOffset : Nat
  edgeDistance : Nat
  inverted : Bool
  tachLossSteps : Nat
  depth : Nat
  staleMs : Nat
  calibration : Channels Calibration
  chords : List Chord
  twists : List Twist
  measures : List TrackedMeasure
  leftNozzle : Option NozzleConfig
  rightNozzle : Option NozzleConfig
  autoEnd : Bool
  watermark : Nat
  /-- bit n set: station n is in the needed set -/
  needed : Byte
  deriving DecidableEq, Repr

/-! ### Odometry Unit and Post Pacer (spec/01) -/

/-- The last latch (R5): its post, the timer value at it, and the counter of µs since. -/
structure LastLatch where
  post : Nat
  time : Nat
  interval : Nat
  deriving DecidableEq, Repr

/-- The Odometry Unit (R7). -/
structure Odometry where
  /-- kept levels of TACA and TACB, true is high (R1) -/
  tacA : Bool
  tacB : Bool
  /-- the distance accumulator A in Q8 mm (R2) -/
  acc : Int
  /-- µs since the last tach edge, or none (R3) -/
  edgeAge : Option Nat
  /-- the tach-fault flag (R4) -/
  tachFault : Bool
  /-- the last latch, or none (R5) -/
  lastLatch : Option LastLatch
  deriving DecidableEq, Repr

/-- The Post Pacer (R26). Whether pacing is inactive, JOINING or RUNNING is the station state. -/
structure Pacer where
  /-- the current post, or none (R8) -/
  currentPost : Option Nat
  /-- the mark-conflict counter (R25) -/
  markConflict : Nat
  deriving DecidableEq, Repr

/-! ### Station Bus Controller (spec/02) -/

/-- The bus mode (R33). -/
inductive BusMode where
  | active
  | listenOnly
  deriving DecidableEq, Repr

/-- An own sample waiting to be sent (section 2.5, R37). -/
structure QueuedSample where
  post : Nat
  sample : Sample
  deriving DecidableEq, Repr

/-- A frame as the station drives it on the bus (R28). -/
inductive TxFrame where
  | mark (frame : MarkFrame)
  | sample (frame : SampleFrame)
  deriving DecidableEq, Repr

/-- The frame being sent, and whether it still belongs to the mark slot or the sample queue (R34). -/
structure Sending where
  frame : TxFrame
  owned : Bool
  deriving DecidableEq, Repr

/-- A frame that a transmit error at `bit` has aborted: the station drives the line for the rest of it (R31). -/
structure AbortedFrame where
  frame : TxFrame
  bit : Nat
  deriving DecidableEq, Repr

/-- The Station Bus Controller (R47, R48). -/
structure Bus where
  mode : BusMode
  /-- the mark slot: none or the post index requested (R36) -/
  slot : Option Nat
  /-- the sample queue, oldest first (R37) -/
  queue : List QueuedSample
  /-- the transmit error counter (R32) -/
  txErrors : Nat
  /-- the duplicate-station condition (R44) -/
  duplicate : Bool
  crcErrors : Nat
  samplesShed : Nat
  duplicateStations : Nat
  /-- the receiver has found the bus idle since power-on reset (R47) -/
  heardIdle : Bool
  /-- the frame in progress on the station's own drive, or none (R34) -/
  sending : Option Sending
  /-- the aborted frame being driven out, which the station does not receive, or none (R31); it has run out when the bus
  is next idle (R27) -/
  aborted : Option AbortedFrame
  deriving DecidableEq, Repr

/-! ### Sensor Input Port (spec/03) -/

/-- The latest sensor set (R53): raw values, over-range flags, arrival time. -/
structure SensorSet where
  raw : Channels Int
  overRange : Channels Bool
  arrival : Nat
  deriving DecidableEq, Repr

/-- The framing state of the sensor receiver (R52). -/
inductive SensorReceiver where
  /-- takes in nothing (SELF_TEST) -/
  | off
  /-- waits for a complete idle gap -/
  | waiting
  /-- groups bytes into bursts -/
  | receiving
  deriving DecidableEq, Repr

/-- The Sensor Input Port (R66). -/
structure Sensor where
  /-- the latest set, or no frame (R53) -/
  latest : Option SensorSet
  /-- the sensor age in µs, or none (R54) -/
  age : Option Nat
  receiver : SensorReceiver
  /-- the sensor-frame-error counter (R64) -/
  frameErrors : Nat
  deriving DecidableEq, Repr

/-! ### Post Window (spec/04) -/

/-- Whether a row waits for samples or has its needed set (R71). -/
inductive RowState where
  | opened
  | ready
  deriving DecidableEq, Repr

/-- How a row was opened (R67). -/
inductive Origin where
  | latched
  | noOwnLatch
  deriving DecidableEq, Repr

/-- A row of the Post Window (R67). -/
structure Row where
  post : Nat
  state : RowState
  origin : Origin
  skippedBefore : Nat
  speed : Option Nat
  slots : Vector (Option Slot) 8
  deriving DecidableEq, Repr

/-- The Post Window (R85, R88). -/
structure Window where
  /-- the rows, oldest first (R69) -/
  rows : List Row
  /-- late-sample for senders 0 to 7 (R79) -/
  late : Vector Nat 8
  /-- duplicate-sample (R78) -/
  duplicateSamples : Nat
  /-- missed-row for stations 0 to 7 (R81) -/
  missed : Vector Nat 8
  deriving DecidableEq, Repr

/-! ### Geometry records, Result FIFO, History Ring (spec/05, spec/06) -/

/-- A geometry record (R110). `GeometryRecord.missing` has bit n set when station n is missing (R103). -/
structure GeometryRecord where
  carPost : Nat
  trackPost : Int
  skippedBefore : Nat
  lostBefore : Nat
  origin : Origin
  missing : Byte
  speed : Option Nat
  gdev : Option Value
  cant : Option Value
  chords : Vector (Option Value) 4
  twists : Vector (Option Value) 2
  deriving DecidableEq, Repr

/-- The Result FIFO with its tally and counter (R113 to R116). -/
structure Results where
  /-- the records held, oldest first (R113) -/
  fifo : List GeometryRecord
  /-- the pending lost tally (R115) -/
  tally : Nat
  /-- results-lost (R116) -/
  lost : Nat
  deriving DecidableEq, Repr

/-! ### Exceedance Tracker and Run Queue (spec/07) -/

/-- The answer to a marking request (R155), or NONE when none was made. -/
inductive MarkOutcome where
  | none
  | scheduled
  | merged
  | tooLate
  | dropped
  deriving DecidableEq, Repr

/-- An open run (R131). -/
structure OpenRun where
  start : Int
  cls : Nat
  peak : Nat
  /-- the deviation at the peak is negative -/
  negative : Bool
  peakPost : Int
  last : Int
  gap : Nat
  hadMissing : Bool
  left : MarkOutcome
  right : MarkOutcome
  deriving DecidableEq, Repr

/-- Why a run closed (R137). -/
inductive CloseCause where
  | gap
  | truncated
  | forced
  deriving DecidableEq, Repr

/-- A run record (R144). -/
structure RunRecord where
  sequence : Half
  /-- the tracked measure's index, 1 to 8 -/
  measure : Nat
  cls : Nat
  negative : Bool
  start : Int
  last : Int
  peakPost : Int
  length : Nat
  peak : Nat
  cause : CloseCause
  hadMissing : Bool
  left : MarkOutcome
  right : MarkOutcome
  deriving DecidableEq, Repr

/-- The Exceedance Tracker and the Run Queue (R153). -/
structure Tracker where
  /-- for tracked measure i + 1: IDLE (none) or its open run (R131) -/
  runs : Vector (Option OpenRun) 8
  /-- the sequence counter, wrapping (R139) -/
  sequence : Half
  spikes : Nat
  runsLost : Nat
  /-- the Run Queue, oldest first (R146) -/
  queue : List RunRecord
  deriving DecidableEq, Repr

/-! ### Marker Scheduler (spec/08) -/

/-- An action of the marker queue (R157). -/
structure MarkAction where
  due : Nat
  nozzle : Nozzle
  deriving DecidableEq, Repr

/-- A valve: CLOSED, or OPEN with its remaining time in µs (R160). -/
inductive Valve where
  | closed
  | opened (remaining : Nat)
  deriving DecidableEq, Repr

/-- The Marker Scheduler (R165). -/
structure Marker where
  /-- the marker queue in ascending order of due post, LEFT before RIGHT (R157) -/
  queue : List MarkAction
  left : Valve
  right : Valve
  /-- missed-marks (R162) -/
  missed : Nat
  deriving DecidableEq, Repr

/-! ### Alert Controller (spec/09) -/

/-- The Alert Controller (R180). In every set bit n stands for source n (R167). The level sources are no state of the
controller: they are in the pending set exactly while their owners' conditions hold (R169). -/
structure Alert where
  /-- the edge sources 0 to 3 of the pending set (R168) -/
  edges : BitVec 4
  mask : Byte
  inService : Byte
  specialMask : Bool
  autoEnd : Bool
  deriving DecidableEq, Repr

/-! ### Station Control and Configuration Store (spec/10) -/

/-- The station states (10, first table). -/
inductive StationState where
  | selfTest
  | fault
  | unconfigured
  | configured
  | joining
  | running
  deriving DecidableEq, Repr

/-- The refusal cause (R189). -/
inductive RefusalCause where
  | none
  | check
  | identity
  | odometry
  | plan
  | tracking
  | marking
  deriving DecidableEq, Repr

/-- The Station Control and Configuration Store. -/
structure Control where
  station : StationState
  /-- the self-test result, bit n for memory n in the order of R199 (R182) -/
  selfTest : BitVec 5
  /-- the configuration block as it was sent, once one has been accepted (R188) -/
  block : Option (List Byte)
  /-- the effective values and the needed set formed from it (R187) -/
  config : Option StationConfig
  /-- the write-once lock (R190) -/
  lock : Bool
  refusal : RefusalCause
  deriving DecidableEq, Repr

/-! ### Recorder Port (spec/11) -/

/-- What a response still has to shift out (R118, R148, R203). -/
inductive Shifting where
  /-- nothing whose shifting out changes the station -/
  | plain
  /-- so many records of a TAKE_RESULTS -/
  | records (left : Nat)
  /-- so many runs of a TAKE_RUNS, which are held (R150) -/
  | runs (left : Nat)
  /-- so many entries of a HISTORY_READ, and whether the first of them has been looked up -/
  | entries (left : Nat) (lookedUp : Bool)
  deriving DecidableEq, Repr

/-- The transaction in progress (spec/11, opening): the bytes received up to the last parameter, the command byte first;
the bytes of the response determined so far, status byte first; and how far the response has been shifted out. -/
structure Transaction where
  received : List Byte
  response : List Byte
  /-- how many bytes of the response had been shifted out at the transaction's last event (assumption log 29) -/
  shifted : Nat
  shifting : Shifting
  deriving DecidableEq, Repr

/-- An open history window (R201): track posts. -/
structure HistoryWindow where
  first : Int
  last : Int
  cursor : Int
  deriving DecidableEq, Repr

/-- The Recorder Port. -/
structure Port where
  /-- RSEL is low (R195). Low with no transaction: the select began before RESETN rose, and none is taken in it -/
  selected : Bool
  transaction : Option Transaction
  window : Option HistoryWindow
  deriving DecidableEq, Repr

/-! ### The station -/

/-- The whole state of one station. -/
structure State where
  /-- the level of RESETN; false while power-on reset lasts (R181) -/
  resetn : Bool
  /-- the free-running 1 µs timer (assumption log 10) -/
  timer : Nat
  odo : Odometry
  pacer : Pacer
  bus : Bus
  sensor : Sensor
  window : Window
  results : Results
  /-- the History Ring, oldest record first (R121) -/
  ring : List GeometryRecord
  tracker : Tracker
  marker : Marker
  alert : Alert
  control : Control
  port : Port
  /-- the model's own: how many times free values have been drawn (assumption log 7) -/
  draws : Nat
  /-- the model's own: the commands that wait, first in, first out -/
  pending : List Instr
  deriving DecidableEq, Repr

/-- Why the machine stops with a fault: never. The spec describes no event that stops the station; what it calls
faults are states of the station. Safe: an empty type excludes no behaviour. -/
inductive Fault where
  deriving DecidableEq, Repr

/-- Why the machine gives a command no meaning. -/
inductive Refusal where
  /-- Raised only by an arm of `exec` for a row without a meaning; no arm does so. Safe: it stops. -/
  | notModelled (mnemonic : String)
  deriving DecidableEq, Repr

/-! ### Reset -/

/-- The Odometry Unit after power-on reset, the kept levels loaded from the inputs (R7). -/
def Odometry.initial (tacA tacB : Bool) : Odometry :=
  { tacA, tacB, acc := 0, edgeAge := none, tachFault := false, lastLatch := none }

/-- The Post Pacer after power-on reset (R26). -/
def Pacer.initial : Pacer := { currentPost := none, markConflict := 0 }

/-- The Station Bus Controller after power-on reset (R47). -/
def Bus.initial : Bus :=
  { mode := .active, slot := none, queue := [], txErrors := 0, duplicate := false, crcErrors := 0, samplesShed := 0,
    duplicateStations := 0, heardIdle := false, sending := none, aborted := none }

/-- The Sensor Input Port after power-on reset (R66). -/
def Sensor.initial : Sensor := { latest := none, age := none, receiver := .off, frameErrors := 0 }

/-- The Post Window after power-on reset (R88). -/
def Window.initial : Window :=
  { rows := [], late := Vector.replicate 8 0, duplicateSamples := 0, missed := Vector.replicate 8 0 }

/-- The Result FIFO after power-on reset (R124). -/
def Results.initial : Results := { fifo := [], tally := 0, lost := 0 }

/-- The Exceedance Tracker and the Run Queue after power-on reset (R153). -/
def Tracker.initial : Tracker :=
  { runs := Vector.replicate 8 none, sequence := 0, spikes := 0, runsLost := 0, queue := [] }

/-- The Marker Scheduler after power-on reset (R165). -/
def Marker.initial : Marker := { queue := [], left := .closed, right := .closed, missed := 0 }

/-- The Alert Controller after power-on reset (R180). -/
def Alert.initial : Alert :=
  { edges := 0, mask := 255, inService := 0, specialMask := false, autoEnd := false }

/-- The control block when power-on reset ends: SELF_TEST, everything cleared (R181). -/
def Control.initial : Control :=
  { station := .selfTest, selfTest := 0, block := none, config := none, lock := false, refusal := .none }

/-- The Recorder Port after power-on reset, with RSEL high (R195, R202). -/
def Port.initial : Port := { selected := false, transaction := none, window := none }

/-- The machine right after power-on reset: RESETN released, the station in SELF_TEST (R181). The kept tachometer
levels, the timer and the level of RSEL have no reset value in the spec (assumption log 9, 10 and 28). -/
def State.reset : State :=
  { resetn := true, timer := 0, odo := Odometry.initial false false, pacer := Pacer.initial, bus := Bus.initial,
    sensor := Sensor.initial, window := Window.initial, results := Results.initial, ring := [],
    tracker := Tracker.initial, marker := Marker.initial, alert := Alert.initial, control := Control.initial,
    port := Port.initial, draws := 0, pending := [] }

end Sys2Proof.Machine
end

