-- ==== Sys2Proof/Machine/Ops.lean ====
section
/-! DEFINITION. Shared operations: the arithmetic of spec/00_scope.md (rounding, clamping, saturation), the bit and
byte orders of the wire forms, the check of R28 and R112, and the views of the state that several blocks read. -/

namespace Sys2Proof.Machine

/-! ### Arithmetic (spec/00_scope.md, Units and number conventions) -/

/-- One pitch p in Q8 mm. -/
def pitch : Int := 64000

/-- The highest post index (R8). -/
def maxPost : Nat := 2147483647

/-- Where the ages and the interval stop counting (R3, R5, R54). -/
def maxAge : Nat := 4294967295

/-- Clamp `x` into `lo..hi`. -/
def clamp (lo hi x : Int) : Int := max lo (min hi x)

/-- The range of the accumulator A (R2). -/
def clampAcc (x : Int) : Int := clamp (-16320000) 256000 x

/-- The range of a displacement count. -/
def clampDc (x : Int) : Int := clamp (-32768) 32767 x

/-- `n / d` rounded to the nearest integer, ties away from zero (spec/00_scope.md, Rounding). -/
def roundDiv (n : Int) (d : Nat) : Int :=
  if 0 ≤ n then ((2 * n.natAbs + d) / (2 * d) : Nat) else -((2 * n.natAbs + d) / (2 * d) : Nat)

/-- Add to a counter that stops at `top` (spec/00_scope.md, Clamping and saturation). -/
def addUpTo (top n k : Nat) : Nat := max n (min top (n + k))

/-- Add to a 16-bit saturating event counter. -/
def addSat16 (n k : Nat) : Nat := addUpTo 65535 n k

/-! ### Station sets -/

/-- The station numbers, ascending; also the alert source numbers and the tracked-measure positions. -/
def eight : List (Fin 8) := [0, 1, 2, 3, 4, 5, 6, 7]

/-- The set of the numbers that satisfy `p`, bit n for number n. -/
def setWhere (p : Fin 8 → Bool) : Byte := BitVec.ofBoolListLE [p 0, p 1, p 2, p 3, p 4, p 5, p 6, p 7]

/-- One thing for each of the eight numbers. -/
def tabulate {α : Type} (f : Fin 8 → α) : Vector α 8 := #v[f 0, f 1, f 2, f 3, f 4, f 5, f 6, f 7]

/-- The set holds number `i`. -/
def inSet (b : Byte) (i : Fin 8) : Bool := b.getLsbD i

/-! ### Bits, bytes and the check -/

/-- The bits of a field, most significant first (R28). -/
def bitsOf {w : Nat} (x : BitVec w) : List Bool := (List.range w).map x.getMsbD

/-- One step of the check register: generator x^16 + x^12 + x^5 + 1, one bit fed (R28). -/
def crcStep (r : Half) (bit : Bool) : Half :=
  if r.msb != bit then (r <<< 1) ^^^ 0x1021#16 else r <<< 1

/-- The check over a bit sequence: register preset to all ones, no final inversion (R28). -/
def crcBits (bits : List Bool) : Half := bits.foldl crcStep 0xFFFF#16

/-- The check over bytes, ascending, each most significant bit first (R112). -/
def crcBytes (bytes : List Byte) : Half := crcBits (bytes.flatMap bitsOf)

/-- A 16-bit field as two bytes, high byte first (R112). -/
def be16 (x : Half) : List Byte := [x.extractLsb' 8 8, x.extractLsb' 0 8]

/-- A 32-bit field as four bytes, high byte first (R112). -/
def be32 (x : Word) : List Byte :=
  [x.extractLsb' 24 8, x.extractLsb' 16 8, x.extractLsb' 8 8, x.extractLsb' 0 8]

/-- An unsigned value as a 16-bit field. -/
def u16 (n : Nat) : List Byte := be16 (BitVec.ofNat 16 n)

/-- An unsigned value as a 32-bit field. -/
def u32 (n : Nat) : List Byte := be32 (BitVec.ofNat 32 n)

/-- A value in two's complement as a 16-bit field. -/
def s16 (x : Int) : List Byte := be16 (BitVec.ofInt 16 x)

/-- A value in two's complement as a 32-bit field. -/
def s32 (x : Int) : List Byte := be32 (BitVec.ofInt 32 x)

/-- One byte holding an unsigned value. -/
def u8 (n : Nat) : Byte := BitVec.ofNat 8 n

/-- A byte from its bits, bit 0 first. -/
def byteOf (b0 b1 b2 b3 b4 b5 b6 b7 : Bool) : Byte := BitVec.ofBoolListLE [b0, b1, b2, b3, b4, b5, b6, b7]

/-- Bytes followed by their check, high byte first (R112). -/
def withCheck (bytes : List Byte) : List Byte := bytes ++ be16 (crcBytes bytes)

/-! ### Views of the state -/

/-- The configuration in use before any has been accepted: every field reads 0 (R200). No row, run or record is formed
from it, since the station is not armed without a configuration (assumption log 18). -/
def StationConfig.absent : StationConfig :=
  { station := 0, carOffset := 0, edgeDistance := 0, inverted := false, tachLossSteps := 0, depth := 0, staleMs := 0,
    calibration := ⟨⟨0, 0⟩, ⟨0, 0⟩, ⟨0, 0⟩, ⟨0, 0⟩, ⟨0, 0⟩⟩, chords := [], twists := [], measures := [],
    leftNozzle := none, rightNozzle := none, autoEnd := false, watermark := 0, needed := 0 }

/-- The effective configuration (R187). -/
def State.cfg (s : State) : StationConfig := s.control.config.getD StationConfig.absent

/-- The station is JOINING or RUNNING, so that pacing is active (spec/01, section 1.6). -/
def State.armed (s : State) : Bool := s.control.station == .joining || s.control.station == .running

/-- The current post as a number; 0 while there is none (R8). -/
def State.post (s : State) : Nat := s.pacer.currentPost.getD 0

/-- REVERSING: A is below zero (R2). -/
def State.reversing (s : State) : Bool := decide (s.odo.acc < 0)

/-- The nozzle's effective configuration, when it is fitted (R154). -/
def StationConfig.nozzle (c : StationConfig) : Nozzle → Option NozzleConfig
  | .left => c.leftNozzle
  | .right => c.rightNozzle

/-- The valve the nozzle drives (R154). -/
def Marker.valve (m : Marker) : Nozzle → Valve
  | .left => m.left
  | .right => m.right

/-- Whether the valve is OPEN. -/
def Valve.isOpen : Valve → Bool
  | .closed => false
  | .opened _ => true

/-- The remaining time of the valve, 0 while CLOSED (R200). -/
def Valve.remaining : Valve → Nat
  | .closed => 0
  | .opened r => r

/-- The VLVL output is at its open level (R160); never while power-on reset lasts (R164). -/
def State.vlvl (s : State) : Bool := s.resetn && s.marker.left.isOpen

/-- The VLVR output is at its open level (R160); never while power-on reset lasts (R164). -/
def State.vlvr (s : State) : Bool := s.resetn && s.marker.right.isOpen

/-- What a command does while RESETN is high. While it is low the station takes nothing (R181; assumption log 12). -/
def State.powered (s : State) (f : State → State) : State := if s.resetn then f s else s

end Sys2Proof.Machine
end

