-- ==== Sys2Proof/Machine/AlertSets.lean ====
section
/-! DEFINITION. The Alert Controller's sets (spec/09): raising edges, level conditions, eligibility, ALERT. -/

namespace Sys2Proof.Machine

/-- Source ACT among the edge sources (R167). -/
def actEdge : BitVec 4 := 1#4

/-- Source PLAN among the edge sources (R167). -/
def planEdge : BitVec 4 := 2#4

/-- Source MARK among the edge sources (R167). -/
def markEdge : BitVec 4 := 4#4

/-- Source PEER among the edge sources (R167). -/
def peerEdge : BitVec 4 := 8#4

/-- Raise the edge source when `cond` holds: it joins the pending set (R168). -/
def Alert.raiseIf (cond : Bool) (edge : BitVec 4) (a : Alert) : Alert :=
  { a with edges := if cond then a.edges ||| edge else a.edges }

/-- The stale limit in µs (R55). -/
def State.staleLimit (s : State) : Nat := s.cfg.staleMs * 1000

/-- The STALE condition (R55). -/
def State.staleLevel (s : State) : Bool :=
  s.armed && (match s.sensor.age with
    | none => false
    | some age => decide (s.staleLimit < age))

/-- The RESULTS condition (R117); false before a configuration has been accepted. -/
def State.resultsLevel (s : State) : Bool :=
  match s.control.config with
  | none => false
  | some c => decide (c.watermark ≤ s.results.fifo.length)

/-- The RUNS condition (R147). -/
def State.runsLevel (s : State) : Bool := !s.tracker.queue.isEmpty

/-- The BUS condition: LISTEN_ONLY, the duplicate-station condition or the tach-fault flag (R169). -/
def State.busLevel (s : State) : Bool := s.bus.mode == .listenOnly || s.bus.duplicate || s.odo.tachFault

/-- The level sources 4 to 7 that are pending (R169). -/
def State.levels (s : State) : BitVec 4 :=
  BitVec.ofBoolListLE [s.staleLevel, s.resultsLevel, s.runsLevel, s.busLevel]

/-- The pending set: edge sources as raised, level sources as their conditions hold (R168, R169). -/
def State.pendingSet (s : State) : Byte := s.levels ++ s.alert.edges

/-- The rule of the present mode allows source `i` (R172). Normal mode: its number is lower than that of every source
in service. Special-mask mode: it is not itself in service. -/
def Alert.allows (a : Alert) (i : Fin 8) : Bool :=
  if a.specialMask then !inSet a.inService i
  else eight.all fun j => !inSet a.inService j || decide (i < j)

/-- The eligible set (R172). -/
def State.eligibleSet (s : State) : Byte :=
  setWhere fun i => inSet s.pendingSet i && !inSet s.alert.mask i && s.alert.allows i

/-- The ALERT output is asserted (R173); never while power-on reset lasts (R181). -/
def State.alertLine (s : State) : Bool := s.resetn && s.eligibleSet != 0

/-- The lowest number in a set, which is the most urgent source (R167). -/
def lowest (b : Byte) : Option (Fin 8) := eight.find? (inSet b)

/-- The set that holds `i` alone. -/
def only (i : Fin 8) : Byte := setWhere fun j => j == i

/-- Take edge source `i` out of the pending set; nothing for a level source (R175, R178). -/
def Alert.clearEdge (i : Fin 8) (a : Alert) : Alert := { a with edges := a.edges &&& ~~~((only i).setWidth 4) }

end Sys2Proof.Machine
end

