-- ==== Sys2Proof/Machine/Marking.lean ====
section
/-! DEFINITION. The Marker Scheduler (spec/08): answering requests, the marker queue, post advances, valves. -/

namespace Sys2Proof.Machine

/-- The order of the marker queue: due post, then LEFT before RIGHT (R157). -/
def actionBefore (a b : MarkAction) : Bool :=
  decide (a.due < b.due) || (a.due == b.due && a.nozzle == .left && b.nozzle == .right)

/-- Insert an action at the place the order gives (R157). -/
def insertAction (a : MarkAction) : List MarkAction → List MarkAction
  | [] => [a]
  | b :: rest => if actionBefore a b then a :: b :: rest else b :: insertAction a rest

/-- The due post of a target track post for a nozzle (R155). -/
def duePost (c : StationConfig) (n : NozzleConfig) (target : Int) : Int := target + c.carOffset + n.offset

/-- The answer to a marking request, the first of R155's conditions that holds. -/
def markAnswer (c : StationConfig) (current : Nat) (x : Nozzle) (n : NozzleConfig) (target : Int) (m : Marker) :
    MarkOutcome :=
  let due := duePost c n target
  if due ≤ current then .tooLate
  else if m.queue.any fun a => a.nozzle == x && (a.due : Int) == due then .merged
  else if maxPost < due then .dropped
  else if 16 ≤ m.queue.length then .dropped
  else .scheduled

/-- The marker queue after a request was answered (R155). -/
def markQueue (c : StationConfig) (x : Nozzle) (n : NozzleConfig) (target : Int) (answer : MarkOutcome) (m : Marker) :
    Marker :=
  { m with queue :=
      if answer = .scheduled then insertAction { due := (duePost c n target).toNat, nozzle := x } m.queue
      else m.queue }

/-- The answer raises MARK: TOO_LATE or DROPPED (R156). -/
def raisesMark (answer : MarkOutcome) : Bool := answer == .tooLate || answer == .dropped

/-- The valve after an action of nozzle X fires: OPEN for the full pulse, whether it was CLOSED or OPEN (R160). -/
def firedValve (c : StationConfig) (x : Nozzle) (v : Valve) : Valve :=
  match c.nozzle x with
  | none => v
  | some n => .opened (n.pulse * 10000)

/-- An action of nozzle `x` is due at post `p`. -/
def dueAt (p : Nat) (x : Nozzle) (queue : List MarkAction) : Bool := queue.any fun a => a.due == p && a.nozzle == x

/-- The actions whose due post is below `p`, which an advance to `p` passes over (R158). -/
def passedActions (p : Nat) (queue : List MarkAction) : List MarkAction := queue.filter fun a => decide (a.due < p)

/-- The Marker Scheduler at a post advance to `p`: passed actions are MISSED, due ones fire (R158, R159). -/
def Marker.advance (c : StationConfig) (p : Nat) (m : Marker) : Marker :=
  { queue := m.queue.filter fun a => decide (p < a.due)
    left := if dueAt p .left m.queue then firedValve c .left m.left else m.left
    right := if dueAt p .right m.queue then firedValve c .right m.right else m.right
    missed := addSat16 m.missed (passedActions p m.queue).length }

/-- A valve after `n` µs: it becomes CLOSED when its remaining time reaches 0 (R160). -/
def Valve.after (n : Nat) : Valve → Valve
  | .closed => .closed
  | .opened r => if r ≤ n then .closed else .opened (r - n)

/-- ARM, DISARM, RESYNC: the queue is emptied and both valves close at once (R165). -/
def Marker.emptied (m : Marker) : Marker := { m with queue := [], left := .closed, right := .closed }

end Sys2Proof.Machine
end

