-- ==== Sys2Proof/Machine/Clock.lean ====
section
/-! DEFINITION. The 1 µs timer: what the passing of time changes (R3, R5, R54, R160). -/

namespace Sys2Proof.Machine

/-- An age after `n` µs: it counts up, stops at its largest value, and stays none while it is none (R3, R54). -/
def ageAfter (n : Nat) (age : Option Nat) : Option Nat := age.map fun a => addUpTo maxAge a n

/-- The last latch after `n` µs: its interval counts up and stops at its largest value (R5). -/
def LastLatch.after (n : Nat) (l : LastLatch) : LastLatch := { l with interval := addUpTo maxAge l.interval n }

/-- The station after `n` µs in which no event falls: the timer, the ages, the interval, and the valves, which close
when their remaining time reaches 0. -/
def State.elapse (n : Nat) (s : State) : State :=
  { s with
    timer := s.timer + n
    odo := { s.odo with edgeAge := ageAfter n s.odo.edgeAge, lastLatch := s.odo.lastLatch.map (·.after n) }
    sensor := { s.sensor with age := ageAfter n s.sensor.age }
    marker := { s.marker with left := s.marker.left.after n, right := s.marker.right.after n } }

/-- One tick of the timer: what a step does on an empty queue (assumption log 1). -/
def State.tick (s : State) : State := s.elapse 1

end Sys2Proof.Machine
end

