-- ==== Sys2Proof/Machine/Operands.lean ====
section
/-! DEFINITION. The operands of the commands: parameter bytes (R118, R174, R201), the fields of received frames (R28)
and the numbers read from a byte sequence (R50, R185). -/

namespace Sys2Proof.Machine

/-- The count byte of TAKE_RESULTS, TAKE_RUNS and HISTORY_READ: 0 becomes 1, above 8 becomes 8 (R118). -/
def countParam (n : Byte) : Nat := max 1 (min 8 n.toNat)

/-- A parameter byte that names one alert source, 0 to 7 (R174). -/
def sourceParam (b : Byte) : Option (Fin 8) := if h : b.toNat < 8 then some ⟨b.toNat, h⟩ else none

/-- The one parameter byte of a command that takes one (R198). -/
def firstParam (params : List Byte) : Byte := params.headD 0

/-- The track post whose four parameter bytes begin at byte `i`, in two's complement (R201). That the high byte comes
first is the model's reading (assumption log 27). -/
def trackPostParam (params : List Byte) (i : Nat) : Int :=
  (params.getD i 0 ++ params.getD (i + 1) 0 ++ params.getD (i + 2) 0 ++ params.getD (i + 3) 0).toInt

/-- Byte `i` of a sequence, as an unsigned number. -/
def byteAt (bytes : List Byte) (i : Nat) : Nat := (bytes.getD i 0).toNat

/-- The unsigned 16-bit number whose high byte is byte `i` (R185). -/
def u16At (bytes : List Byte) (i : Nat) : Nat := 256 * byteAt bytes i + byteAt bytes (i + 1)

/-- The two's complement 16-bit number whose high byte is byte `i` (R50, R185). -/
def s16At (bytes : List Byte) (i : Nat) : Int := (BitVec.ofNat 16 (u16At bytes i)).toInt

/-- The station a frame's sender field names. -/
def senderOf (sender : BitVec 3) : Fin 8 := ⟨sender.toNat, sender.isLt⟩

/-- The sender field that names a station. -/
def senderBits (station : Fin 8) : BitVec 3 := BitVec.ofNat 3 station

/-! ### Frames (R28) -/

/-- Bits 1 to 36 of a MARK frame, which its CRC covers. -/
def markCovered (f : MarkFrame) : List Bool := false :: (bitsOf f.sender ++ bitsOf f.post)

/-- Bits 1 to 116 of a SAMPLE frame, which its CRC covers. -/
def sampleCovered (f : SampleFrame) : List Bool :=
  true :: (bitsOf f.sender ++ bitsOf f.post ++ bitsOf f.yA ++ bitsOf f.zL ++ bitsOf f.zR ++ bitsOf f.cant ++
    bitsOf f.presence ++ bitsOf f.flags)

/-- The MARK frame passes the check of R40: its CRC matches and neither end bit is driven. -/
def markGood (f : MarkFrame) : Bool := f.crc == crcBits (markCovered f) && f.ending == 3#2

/-- The SAMPLE frame passes the check of R40. -/
def sampleGood (f : SampleFrame) : Bool := f.crc == crcBits (sampleCovered f) && f.ending == 3#2

/-- One value of a SAMPLE frame, `i` being its place in the order yA, zL, zR, C. It is absent when its presence bit
is 0, without reading the value and flag bits (R28). -/
def fieldValue (f : SampleFrame) (i : Nat) (x : Half) : Option Value :=
  if f.presence.getMsbD i then
    some { dc := x.toInt, flags :=
      { held := f.flags.getMsbD (3 * i), clipped := f.flags.getMsbD (3 * i + 1), clamped := f.flags.getMsbD (3 * i + 2) } }
  else none

/-- The four values a SAMPLE frame carries (R42). -/
def frameSample (f : SampleFrame) : Sample :=
  { yA := fieldValue f 0 f.yA, zL := fieldValue f 1 f.zL, zR := fieldValue f 2 f.zR, cant := fieldValue f 3 f.cant }

/-- The MARK frame with its CRC and end bits as a transmitter forms them. -/
def sealMark (f : MarkFrame) : MarkFrame := { f with crc := crcBits (markCovered f), ending := 3 }

/-- The SAMPLE frame with its CRC and end bits as a transmitter forms them. -/
def sealSample (f : SampleFrame) : SampleFrame := { f with crc := crcBits (sampleCovered f), ending := 3 }

/-- The MARK frame of a station for a post. -/
def ownMark (station : Fin 8) (post : Nat) : MarkFrame :=
  sealMark { sender := senderBits station, post := BitVec.ofNat 32 post, crc := 0, ending := 0 }

/-- The value field of a SAMPLE frame; 0 when the value is absent. -/
def valueField : Option Value → Half
  | none => 0
  | some v => BitVec.ofInt 16 v.dc

/-- The flag bits of a value, HELD, CLIPPED, CLAMPED; clear when the value is absent. -/
def valueFlags : Option Value → BitVec 3
  | none => 0
  | some v => BitVec.ofBoolListBE [v.flags.held, v.flags.clipped, v.flags.clamped]

/-- The SAMPLE frame of a station for a queued sample. -/
def ownSample (station : Fin 8) (q : QueuedSample) : SampleFrame :=
  let v := q.sample
  sealSample
    { sender := senderBits station, post := BitVec.ofNat 32 q.post
      yA := valueField v.yA, zL := valueField v.zL, zR := valueField v.zR, cant := valueField v.cant
      presence := BitVec.ofBoolListBE [v.yA.isSome, v.zL.isSome, v.zR.isSome, v.cant.isSome]
      flags := valueFlags v.yA ++ valueFlags v.zL ++ valueFlags v.zR ++ valueFlags v.cant
      crc := 0, ending := 0 }

/-- The bits of a frame on the bus, from the start bit to the second end bit; a driven bit is false (R28). -/
def frameBits : TxFrame → List Bool
  | .mark f => false :: (markCovered f ++ bitsOf f.crc ++ bitsOf f.ending)
  | .sample f => false :: (sampleCovered f ++ bitsOf f.crc ++ bitsOf f.ending)

end Sys2Proof.Machine
end

