-- ==== Sys2Proof/Config.lean ====
section
/-! DEFINITION. The free values of the model: what the manual leaves open after a command that goes on. -/

namespace Sys2Proof

/-- A byte whose value the manual does not state: the `index`-th one of the response answered at draw number `draw`.
It has no body, so nothing in Lean can tell what it is (assumption log 7 and 8). -/
opaque Config.freeByte (draw index : Nat) : Byte

/-- What RDO is at bit `index` of a select that carries no transaction, `none` being not driven: the manual does not say
(assumption log 28). The same stands for a bit of a byte that the state does not determine yet (assumption log 29). -/
opaque Config.freeLevel (draw index : Nat) : Option Bool

end Sys2Proof
end

