-- ==== Sys2Proof/Machine/Transactions.lean ====
section
/-! DEFINITION. Transactions of the Recorder Port (R195 to R197, R202): the bytes clocked in, taking a command, its
answer, its end, and what RDO carries meanwhile. -/

namespace Sys2Proof.Machine

/-- The status codes (R197). -/
inductive Status where
  | ok
  | busy
  | wrongState
  | badConfig
  | locked
  | empty
  | ended
  | badCommand
  deriving DecidableEq, Repr

/-- The code of a status (R197). -/
def statusCode : Status → Byte
  | .ok => 0
  | .busy => 1
  | .wrongState => 2
  | .badConfig => 3
  | .locked => 4
  | .empty => 5
  | .ended => 6
  | .badCommand => 7

/-- What a command answers: its status, the response data known when it is taken, and what it has to shift out. -/
structure Reply where
  status : Status
  data : List Byte
  shifting : Shifting
  deriving DecidableEq, Repr

/-- A status with no response data. -/
def bare (status : Status) : Reply := { status, data := [], shifting := .plain }

/-- OK with response data that changes nothing as it is shifted out. -/
def okWith (data : List Byte) : Reply := { status := .ok, data, shifting := .plain }

/-- RSEL has been low since before RESETN rose: no transaction is taken until its next fall (R195). -/
def Port.void (p : Port) : Bool := p.selected && p.transaction.isNone

/-- RSEL is taken high: the transaction in progress, if there is one, ends (R195, R150). -/
def State.endTransaction (s : State) : State :=
  { s with port := { s.port with selected := false, transaction := none } }

/-- RSEL is low and transaction `t` in progress. -/
def State.withTransaction (t : Transaction) (s : State) : State :=
  { s with port := { s.port with selected := true, transaction := some t } }

/-- The history window becomes none (R202). -/
def State.cancelWindow (s : State) : State := { s with port := { s.port with window := none } }

/-- A transaction in progress that has received `received` and begins to send the answer `reply`, its status byte first
(R196). -/
def State.respond (received : List Byte) (reply : Reply) (s : State) : State :=
  s.withTransaction
    { received, response := statusCode reply.status :: reply.data, shifted := 0, shifting := reply.shifting }

/-- The command byte and too few parameters have been received: no command is taken, and nothing is sent (R196). -/
def State.receiveOnly (received : List Byte) (s : State) : State :=
  s.withTransaction { received, response := [], shifted := 0, shifting := .plain }

/-- The answer the station state decides before anything else (R197): BUSY in SELF_TEST, WRONG_STATE in FAULT unless
the command is answered there. -/
def gated (inFault : Bool) (body : State → Reply × State) (s : State) : Reply × State :=
  match s.control.station with
  | .selfTest => (bare .busy, s)
  | .fault => if inFault then body s else (bare .wrongState, s)
  | .unconfigured | .configured | .joining | .running => body s

/-- A transaction takes a command whole: an earlier transaction has ended (assumption log 4), the history window is
cancelled unless the command keeps it (R202), and the answer begins to be sent (R196). -/
def takeCommand (received : List Byte) (keepsWindow : Bool) (body : State → Reply × State) (s : State) : State :=
  let s := s.endTransaction
  let r := body (if keepsWindow then s else s.cancelWindow)
  r.2.respond received r.1

/-- The recorder clocks in a command byte and bytes after it (R195, R196, R198). With all the parameters the command takes
it is taken, and what follows them on RDI is disregarded; with fewer it is not (assumption log 5). In a select that began
before RESETN rose nothing is taken. -/
def clockIn (code : Byte) (params : List Byte) (keepsWindow : Bool) (body : List Byte → State → Reply × State)
    (s : State) : State :=
  let whole := params.take (paramCount code)
  if s.port.void then s
  else if params.length < paramCount code then s.receiveOnly (code :: params)
  else takeCommand (code :: whole) keepsWindow (body whole) s

/-! ### RDO -/

/-- Nothing of the response is open: its command has been taken, and every entry of a HISTORY_READ has been looked up. The
bytes of a history entry are determined at its lookup, when its kind byte begins (R203). -/
def Transaction.determined (t : Transaction) : Bool :=
  !t.response.isEmpty &&
    match t.shifting with
    | .entries left lookedUp => decide (left ≤ lookedUp.toNat)
    | .plain | .records _ | .runs _ => true

/-- Byte `k` that RDO carries in a transaction, counted from its start: 0 while command byte and parameters come in, then
the response, and 0 after its end (R196). `none` is a byte that is not yet determined: while the command's parameters are
not complete every byte after them, and while entries of a HISTORY_READ are still to be looked up every byte after the
response so far (R203; assumption log 29). -/
def Transaction.rdoByte (t : Transaction) (k : Nat) : Option Byte :=
  if k < t.received.length ∨ t.response = [] ∧ k ≤ paramCount (t.received.headD 0) then some 0
  else
    match t.response[k - t.received.length]? with
    | some byte => some byte
    | none => if t.determined then some 0 else none

/-- What RDO is at bit `k` of the select, each byte most significant bit first; `none` is not driven (R195, R181). In a
select that carries no transaction the manual does not say (assumption log 28), and a bit of a byte not yet determined is
free (assumption log 29). -/
def State.rdo (s : State) (k : Nat) : Option Bool :=
  if s.resetn && s.port.selected then
    match s.port.transaction with
    | none => Config.freeLevel s.draws k
    | some t =>
      match t.rdoByte (k / 8) with
      | none => Config.freeLevel s.draws k
      | some byte => some (byte.getMsbD (k % 8))
  else none

end Sys2Proof.Machine
end

