-- ==== Sys2Proof/Machine/AlertCommands.lean ====
section
/-! DEFINITION. The Alert Controller's commands (spec/09, section 9.3). -/

namespace Sys2Proof.Machine

/-- The response byte of a source, 8 for NONE (R174). -/
def sourceByte : Option (Fin 8) → Byte
  | none => 8
  | some i => u8 i

/-- The state with the Alert Controller replaced. -/
def State.setAlert (s : State) (a : Alert) : State := { s with alert := a }

/-- The controller after source `i` was acknowledged: in service unless auto-end is on, an edge no longer pending
(R175). -/
def Alert.acknowledged (i : Fin 8) (a : Alert) : Alert :=
  { a.clearEdge i with inService := if a.autoEnd then a.inService else a.inService ||| only i }

/-- ACKNOWLEDGE takes the most urgent eligible source (R175). -/
def answerAcknowledge (s : State) : Reply × State :=
  match lowest s.eligibleSet with
  | none => (okWith [sourceByte none], s)
  | some i => (okWith [sourceByte (some i)], s.setAlert (s.alert.acknowledged i))

/-- ACKNOWLEDGE (R175). -/
def execAcknowledge (s : State) : Host.Outcome State Fault Refusal :=
  .next (s.powered (clockIn 48 [] false fun _ => gated false answerAcknowledge))

/-- The source a non-specific END_SERVICE ends: the lowest in service, in special-mask mode the lowest that is not
masked (R176). -/
def Alert.nonSpecific (a : Alert) : Option (Fin 8) :=
  lowest (if a.specialMask then a.inService &&& ~~~a.mask else a.inService)

/-- The source END_SERVICE ends: the named one when it is in service, or the non-specific one (R176). -/
def Alert.serviceEnded (which : Byte) (a : Alert) : Option (Fin 8) :=
  match sourceParam which with
  | some i => if inSet a.inService i then some i else none
  | none => a.nonSpecific

/-- END_SERVICE (R176); a byte that names no source and is not 255 is answered BAD_COMMAND (R174). -/
def answerEndService (which : Byte) (s : State) : Reply × State :=
  if (sourceParam which).isNone && which != 255 then (bare .badCommand, s)
  else
    match s.alert.serviceEnded which with
    | none => (okWith [sourceByte none], s)
    | some i =>
      (okWith [sourceByte (some i)], s.setAlert { s.alert with inService := s.alert.inService &&& ~~~(only i) })

/-- END_SERVICE (R176). -/
def execEndService (params : List Byte) (s : State) : Host.Outcome State Fault Refusal :=
  .next (s.powered (clockIn 49 params false fun p => gated false (answerEndService (firstParam p))))

/-- SET_MASK replaces the whole mask (R170). -/
def answerSetMask (mask : Byte) (s : State) : Reply × State := (bare .ok, s.setAlert { s.alert with mask })

/-- SET_MASK (R170). -/
def execSetMask (params : List Byte) (s : State) : Host.Outcome State Fault Refusal :=
  .next (s.powered (clockIn 50 params false fun p => gated false (answerSetMask (firstParam p))))

/-- SET_MODES sets special-mask mode from bit 0 and auto-end mode from bit 1 (R177). -/
def answerSetModes (modes : Byte) (s : State) : Reply × State :=
  (bare .ok, s.setAlert { s.alert with specialMask := modes.getLsbD 0, autoEnd := modes.getLsbD 1 })

/-- SET_MODES (R177). -/
def execSetModes (params : List Byte) (s : State) : Host.Outcome State Fault Refusal :=
  .next (s.powered (clockIn 51 params false fun p => gated false (answerSetModes (firstParam p))))

/-- CLEAR_PENDING takes an edge source out of the pending set and does nothing to a level source (R178); a byte that
names no source is answered BAD_COMMAND (R174). -/
def answerClearPending (which : Byte) (s : State) : Reply × State :=
  match sourceParam which with
  | none => (bare .badCommand, s)
  | some i => (bare .ok, s.setAlert (s.alert.clearEdge i))

/-- CLEAR_PENDING (R178). -/
def execClearPending (params : List Byte) (s : State) : Host.Outcome State Fault Refusal :=
  .next (s.powered (clockIn 52 params false fun p => gated false (answerClearPending (firstParam p))))

end Sys2Proof.Machine
end

