-- ==== Sys2Proof/Machine/Flags.lean ====
section
/-! DEFINITION. The flags of displacement values: union, and CLAMPED where a computation clamps
(spec/00_scope.md, Optional values and flags). -/

namespace Sys2Proof.Machine

/-- No flag set. -/
def Flags.clear : Flags := { held := false, clipped := false, clamped := false }

/-- The union of two sets of flags. -/
def Flags.union (f g : Flags) : Flags :=
  { held := f.held || g.held, clipped := f.clipped || g.clipped, clamped := f.clamped || g.clamped }

/-- The value `x` clamped into the displacement range, with the flags of its inputs, and CLAMPED when the clamp
changed it. -/
def clampedValue (x : Int) (flags : Flags) : Value :=
  { dc := clampDc x, flags := { flags with clamped := flags.clamped || decide (clampDc x ≠ x) } }

/-- A flag group of a record: bit 3 HELD, bit 2 CLIPPED, bit 1 CLAMPED, bit 0 is 0; all 0 for an absent value (R112). -/
def flagGroup : Option Value → BitVec 4
  | none => 0
  | some v => BitVec.ofBoolListLE [false, v.flags.clamped, v.flags.clipped, v.flags.held]

end Sys2Proof.Machine
end

