-- ==== Sys2Proof/Machine/ChordEngine.lean ====
section
/-! DEFINITION. The Chord Engine (spec/05): versines, twists and the geometry record of a retired row. -/

namespace Sys2Proof.Machine

/-- The value of a sample that a chord's quantity selects (R90). -/
def Sample.quantity (x : Sample) : Quantity → Option Value
  | .alignment => x.yA
  | .topLeft => x.zL
  | .topRight => x.zR

/-- The sample a row holds for a station, if that slot is present (R68). -/
def Row.sample (row : Row) (station : Fin 8) : Option Sample := row.slots[station].map Slot.sample

/-- A chord's input from a station's slot, absent when the slot or the value in it is absent (R96). -/
def chordInput (row : Row) (q : Quantity) (station : Fin 8) : Option Value :=
  (row.sample station).bind fun x => x.quantity q

/-- The numerator n = (a + b) yM - b yF - a yB, exact (R97). -/
def versineNumerator (a b : Nat) (yF yM yB : Int) : Int := (a + b) * yM - b * yF - a * yB

/-- The unscaled versine v = n / (a + b), rounded, not clamped (R98). -/
def unscaledVersine (a b : Nat) (yF yM yB : Int) : Int := roundDiv (versineNumerator a b yF yM yB) (a + b)

/-- The scaled versine s = v k / 256, rounded, before the clamp (R99). -/
def scaledVersine (c : Chord) (yF yM yB : Int) : Int := roundDiv (unscaledVersine c.a c.b yF yM yB * c.k) 256

/-- The value of a chord in the record: absent unless all three inputs are present (R96 to R99). -/
def chordValue (own : Fin 8) (row : Row) (c : Chord) : Option Value :=
  match chordInput row c.quantity c.front, chordInput row c.quantity own, chordInput row c.quantity c.rear with
  | some yF, some yM, some yB =>
    some (clampedValue (scaledVersine c yF.dc yM.dc yB.dc) ((yF.flags.union yM.flags).union yB.flags))
  | _, _, _ => none

/-- The difference of two cants, clamped, with the union of their flags (R100, R102). -/
def cantDifference (x y : Value) : Value := clampedValue (x.dc - y.dc) (x.flags.union y.flags)

/-- The record of a car post in the History Ring, if it holds one (R122). -/
def ringLookup (ring : List GeometryRecord) (post : Nat) : Option GeometryRecord := ring.find? fun g => g.carPost == post

/-- The cant of a HISTORY twist's base record (R101). -/
def baseCant (ring : List GeometryRecord) (post base : Nat) : Option Value :=
  if post ≤ base then none else (ringLookup ring (post - base)).bind GeometryRecord.cant

/-- The other cant of a twist: the partner's from the row, or the base record's from the ring (R100, R101). -/
def twistOther (ring : List GeometryRecord) (row : Row) : Twist → Option Value
  | .partner station => (row.sample station).bind Sample.cant
  | .history base => baseCant ring row.post base

/-- The value of a twist in the record (R100 to R102). -/
def twistValue (own : Fin 8) (ring : List GeometryRecord) (row : Row) (t : Twist) : Option Value :=
  match (row.sample own).bind Sample.cant, twistOther ring row t with
  | some x, some y => some (cantDifference x y)
  | _, _ => none

/-- The missing-peers mask: needed stations but the own one whose slots are absent (R103). -/
def missingPeers (c : StationConfig) (row : Row) : Byte :=
  setWhere fun i => inSet c.needed i && i != c.station && row.slots[i].isNone

/-- The geometry record of a row, lost-before 0 (R92 to R95, R103, R104, R110). -/
def recordOf (c : StationConfig) (ring : List GeometryRecord) (row : Row) : GeometryRecord :=
  let chord := fun i : Nat => c.chords[i]?.bind (chordValue c.station row)
  let twist := fun i : Nat => c.twists[i]?.bind (twistValue c.station ring row)
  { carPost := row.post
    trackPost := (row.post : Int) - c.carOffset
    skippedBefore := row.skippedBefore
    lostBefore := 0
    origin := row.origin
    missing := missingPeers c row
    speed := row.speed
    gdev := row.slots[c.station].bind Slot.gdev
    cant := (row.sample c.station).bind Sample.cant
    chords := #v[chord 0, chord 1, chord 2, chord 3]
    twists := #v[twist 0, twist 1] }

end Sys2Proof.Machine
end

