-- ==== Sys2Proof/Machine/RecordStores.lean ====
section
/-! DEFINITION. The Result FIFO, the History Ring and the wire forms of records and runs (spec/06; R145). -/

namespace Sys2Proof.Machine

/-- A record is handed to the Result FIFO: stored with lost-before from the tally, or counted lost (R113 to R116). -/
def Results.store (g : GeometryRecord) (r : Results) : Results :=
  if r.fifo.length < 64 then { r with fifo := r.fifo ++ [{ g with lostBefore := r.tally }], tally := 0 }
  else { r with tally := addUpTo 255 r.tally 1, lost := addSat16 r.lost 1 }

/-- A record joins the History Ring; the oldest leaves when 512 are held (R121). -/
def ringAppend (g : GeometryRecord) (ring : List GeometryRecord) : List GeometryRecord :=
  (if 512 ≤ ring.length then ring.drop 1 else ring) ++ [g]

/-- The record of a track post in the History Ring, if it holds one (R123). -/
def trackLookup (ring : List GeometryRecord) (t : Int) : Option GeometryRecord := ring.find? fun g => g.trackPost == t

/-! ### Wire forms -/

/-- The code of an origin (R112). -/
def originCode : Origin → Byte
  | .latched => 0
  | .noOwnLatch => 1

/-- The presence mask of a record (R112). -/
def presenceMask (g : GeometryRecord) : List Byte :=
  [byteOf g.twists[1].isSome false false false false false false false,
   byteOf g.speed.isSome g.gdev.isSome g.cant.isSome g.chords[0].isSome g.chords[1].isSome g.chords[2].isSome
     g.chords[3].isSome g.twists[0].isSome]

/-- A displacement field of the wire form, 0 when absent (R112). -/
def valueBytes : Option Value → List Byte
  | none => [0, 0]
  | some v => s16 v.dc

/-- Two flag groups as one byte, the first in the high half (R112). -/
def flagByte (x y : Option Value) : Byte := flagGroup x ++ flagGroup y

/-- Bytes 0 to 37 of a record's wire form (R112). -/
def recordBody (station : Fin 8) (g : GeometryRecord) : List Byte :=
  u32 g.carPost ++ s32 g.trackPost ++ u16 g.skippedBefore ++ [u8 g.lostBefore, originCode g.origin, g.missing,
    u8 station] ++ presenceMask g ++ u16 (g.speed.getD 0) ++ valueBytes g.gdev ++ valueBytes g.cant ++
    valueBytes g.chords[0] ++ valueBytes g.chords[1] ++ valueBytes g.chords[2] ++ valueBytes g.chords[3] ++
    valueBytes g.twists[0] ++ valueBytes g.twists[1] ++
    [flagByte g.gdev g.cant, flagByte g.chords[0] g.chords[1], flagByte g.chords[2] g.chords[3],
     flagByte g.twists[0] g.twists[1]]

/-- The 40 bytes of a record (R112). -/
def recordBytes (station : Fin 8) (g : GeometryRecord) : List Byte := withCheck (recordBody station g)

/-- The code of a close cause (R145). -/
def causeCode : CloseCause → Byte
  | .gap => 0
  | .truncated => 1
  | .forced => 2

/-- The code of a marker outcome (R145). -/
def outcomeCode : MarkOutcome → BitVec 4
  | .none => 0
  | .scheduled => 1
  | .merged => 2
  | .tooLate => 3
  | .dropped => 4

/-- Bytes 0 to 25 of a run's wire form (R145). -/
def runBody (station : Fin 8) (r : RunRecord) : List Byte :=
  be16 r.sequence ++ [u8 r.measure, u8 r.cls, (if r.negative then 1 else 0), causeCode r.cause,
    (if r.hadMissing then 1 else 0), outcomeCode r.left ++ outcomeCode r.right] ++ s32 r.start ++ s32 r.last ++
    s32 r.peakPost ++ u16 r.length ++ u16 r.peak ++ [u8 station, 0]

/-- The 28 bytes of a run (R145). -/
def runBytes (station : Fin 8) (r : RunRecord) : List Byte := withCheck (runBody station r)

end Sys2Proof.Machine
end

