-- ==== Sys2Proof/Machine/Tracking.lean ====
section
/-! DEFINITION. The Exceedance Tracker and the Run Queue (spec/07): evaluating a record, runs, closes, offers. -/

namespace Sys2Proof.Machine

/-- The blocks that the evaluation of a record may change: the tracker with its queue, the Marker Scheduler it asks,
and the Alert Controller that the two raise edges in. -/
structure Tracks where
  tracker : Tracker
  marker : Marker
  alert : Alert
  deriving DecidableEq, Repr

/-- What the evaluation of a record reads and leaves as it is: the effective configuration, the current post (R155)
and how many of the oldest runs are held for a transaction (R150). -/
structure TrackEnv where
  cfg : StationConfig
  current : Nat
  held : Nat
  deriving DecidableEq, Repr

/-- Replace the run state of measure `i` (R131). -/
def Tracks.setRun (i : Fin 8) (run : Option OpenRun) (t : Tracks) : Tracks :=
  { t with tracker := { t.tracker with runs := t.tracker.runs.set i run } }

/-! ### Marking requests -/

/-- Ask the Marker Scheduler for a marking; the answer and the blocks after it (R155, R156). A nozzle that is not
fitted receives no request (R154). -/
def requestMark (e : TrackEnv) (x : Nozzle) (target : Int) (t : Tracks) : MarkOutcome × Tracks :=
  match e.cfg.nozzle x with
  | none => (.none, t)
  | some n =>
    let answer := markAnswer e.cfg e.current x n target t.marker
    (answer, { t with marker := markQueue e.cfg x n target answer t.marker
                      alert := t.alert.raiseIf (raisesMark answer) markEdge })

/-- The run's marker outcome for a nozzle (R131). -/
def OpenRun.outcome (r : OpenRun) : Nozzle → MarkOutcome
  | .left => r.left
  | .right => r.right

/-- Write the answer of a nozzle's request into the run (R142, R143). -/
def OpenRun.setOutcome (r : OpenRun) (x : Nozzle) (answer : MarkOutcome) : OpenRun :=
  match x with
  | .left => { r with left := answer }
  | .right => { r with right := answer }

/-- The nozzle serves tracked measure `i` from its anchor (R142, R143). -/
def serves (c : StationConfig) (x : Nozzle) (anchor : Anchor) (i : Fin 8) : Bool :=
  match c.nozzle x with
  | none => false
  | some n => n.anchor == anchor && inSet n.mask i

/-- The nozzle's minimum class, 0 when it is not fitted. -/
def minClass (c : StationConfig) (x : Nozzle) : Nat := ((c.nozzle x).map NozzleConfig.minClass).getD 0

/-- Request a marking of the run when `due` holds, writing the answer into the run. -/
def requestWhen (e : TrackEnv) (due : Bool) (x : Nozzle) (target : Int) (p : OpenRun × Tracks) : OpenRun × Tracks :=
  if due then
    let (answer, t) := requestMark e x target p.2
    (p.1.setOutcome x answer, t)
  else p

/-- A START-anchored nozzle is due: it serves the measure and the run's class has reached its minimum class, which it
had not before (R142). -/
def startDue (c : StationConfig) (i : Fin 8) (before now : Nat) (x : Nozzle) : Bool :=
  serves c x .start i && decide (before < minClass c x) && decide (minClass c x ≤ now)

/-- The START-anchored requests when the run's class rises from `before` to its present class, LEFT first (R142). -/
def startRequests (e : TrackEnv) (i : Fin 8) (before : Nat) (p : OpenRun × Tracks) : OpenRun × Tracks :=
  let q := requestWhen e (startDue e.cfg i before p.1.cls .left) .left p.1.start p
  requestWhen e (startDue e.cfg i before p.1.cls .right) .right p.1.start q

/-- A PEAK-anchored nozzle is due at the close of a run of class `cls` (R143). -/
def peakDue (c : StationConfig) (i : Fin 8) (cls : Nat) (x : Nozzle) : Bool :=
  serves c x .peak i && decide (minClass c x ≤ cls)

/-- The PEAK-anchored requests at a kept close, LEFT first; none at a FORCED close (R143, R140). -/
def peakRequests (e : TrackEnv) (i : Fin 8) (cause : CloseCause) (p : OpenRun × Tracks) : OpenRun × Tracks :=
  if cause = .forced then p
  else
    let q := requestWhen e (peakDue e.cfg i p.1.cls .left) .left p.1.peakPost p
    requestWhen e (peakDue e.cfg i p.1.cls .right) .right p.1.peakPost q

/-- PLAN when the class reaches 2 from below, ACT when it reaches 3 (R141). -/
def classAlerts (before now : Nat) (a : Alert) : Alert :=
  (a.raiseIf (now == 2 && decide (before < 2)) planEdge).raiseIf (now == 3 && decide (before < 3)) actEdge

/-! ### The Run Queue -/

/-- The place of the oldest run that is not held and whose class is lower than `cls` (R146, R150). -/
def evictionIndex (held cls : Nat) (queue : List RunRecord) : Option Nat :=
  (((queue.drop held).findIdx? fun r => decide (r.cls < cls))).map (· + held)

/-- Offer a kept run to the Run Queue (R146). -/
def offerRun (held : Nat) (r : RunRecord) (t : Tracker) : Tracker :=
  if t.queue.length < 32 then { t with queue := t.queue ++ [r] }
  else
    match evictionIndex held r.cls t.queue with
    | some k => { t with queue := t.queue.eraseIdx k ++ [r], runsLost := addSat16 t.runsLost 1 }
    | none => { t with runsLost := addSat16 t.runsLost 1 }

/-! ### Closing -/

/-- The length of a run whose last exceeding post is its end (R137). -/
def OpenRun.length (r : OpenRun) : Nat := (r.last - r.start + 1).toNat

/-- The run record of a kept run (R144). -/
def runRecord (i : Fin 8) (cause : CloseCause) (sequence : Half) (r : OpenRun) : RunRecord :=
  { sequence, measure := i + 1, cls := r.cls, negative := r.negative, start := r.start, last := r.last,
    peakPost := r.peakPost, length := r.length, peak := r.peak, cause, hadMissing := r.hadMissing,
    left := r.left, right := r.right }

/-- The spike filter discards the run: class 1 and shorter than M (R138). -/
def isSpike (m : TrackedMeasure) (r : OpenRun) : Bool := r.cls == 1 && decide (r.length < m.m)

/-- Number a kept run and offer it to the Run Queue (R139, R146). -/
def keepRun (held : Nat) (i : Fin 8) (cause : CloseCause) (r : OpenRun) (t : Tracker) : Tracker :=
  offerRun held (runRecord i cause t.sequence r) { t with sequence := t.sequence + 1 }

/-- Close the run of measure `i`: the measure becomes IDLE, then the spike filter, the PEAK-anchored requests, the
sequence number and the Run Queue, in that order (R137 to R139, R143). -/
def closeRun (e : TrackEnv) (i : Fin 8) (m : TrackedMeasure) (cause : CloseCause) (r : OpenRun) (t : Tracks) : Tracks :=
  let t := t.setRun i none
  if isSpike m r then { t with tracker := { t.tracker with spikes := addSat16 t.tracker.spikes 1 } }
  else
    let (r, t) := peakRequests e i cause (r, t)
    { t with tracker := keepRun e.held i cause r t.tracker }

/-! ### Evaluating a post -/

/-- The value a measure names in a record (R127, R129). -/
def measuredValue (measure : Measure) (g : GeometryRecord) : Option Value :=
  match measure with
  | .gdev => g.gdev
  | .cant => g.cant
  | .chord i => g.chords[i]
  | .twist j => g.twists[j]

/-- The deviation of the measure at a record, or none when the value is no data: absent, or HELD (R129, R130). -/
def deviation (m : TrackedMeasure) (g : GeometryRecord) : Option Int :=
  match measuredValue m.measure g with
  | none => none
  | some v => if v.flags.held then none else some (v.dc - m.nominal)

/-- The post class of a deviation (R130). -/
def postClass (m : TrackedMeasure) (d : Int) : Nat :=
  if m.l3 < d.natAbs then 3 else if m.l2 < d.natAbs then 2 else if m.l1 < d.natAbs then 1 else 0

/-- The post is exceeding (R130). -/
def exceeding (m : TrackedMeasure) (d : Int) : Bool := decide ((m.l1 : Int) - m.h < d.natAbs)

/-- The run opened at a post (R132). -/
def newRun (post : Int) (cls : Nat) (d : Int) : OpenRun :=
  { start := post, cls, peak := d.natAbs, negative := decide (d < 0), peakPost := post, last := post, gap := 0,
    hadMissing := false, left := .none, right := .none }

/-- Raise the class alerts and make the START-anchored requests for a class risen from `before`, then hold the run as
the measure's open run (R132, R133, R141, R142). -/
def holdRun (e : TrackEnv) (i : Fin 8) (before : Nat) (r : OpenRun) (t : Tracks) : Tracks :=
  let (r, t) := startRequests e i before (r, { t with alert := classAlerts before r.cls t.alert })
  t.setRun i (some r)

/-- An IDLE measure takes a post with a deviation (R132). -/
def takeIdle (e : TrackEnv) (i : Fin 8) (m : TrackedMeasure) (post : Int) (d : Int) (t : Tracks) : Tracks :=
  if postClass m d = 0 then t else holdRun e i 0 (newRun post (postClass m d) d) t

/-- The run after an exceeding post: last exceeding post, gap, peak and class (R133). -/
def extendRun (m : TrackedMeasure) (post : Int) (d : Int) (r : OpenRun) : OpenRun :=
  let higher := decide (r.peak < d.natAbs)
  { r with
    last := post, gap := 0
    peak := if higher then d.natAbs else r.peak
    negative := if higher then decide (d < 0) else r.negative
    peakPost := if higher then post else r.peakPost
    cls := max r.cls (postClass m d) }

/-- An OPEN measure takes an exceeding post, the cap of 4096 posts tested before and after (R133, R136). -/
def takeExceeding (e : TrackEnv) (i : Fin 8) (m : TrackedMeasure) (post : Int) (d : Int) (r : OpenRun) (t : Tracks) :
    Tracks :=
  if 4096 < post - r.start + 1 then takeIdle e i m post d (closeRun e i m .truncated r t)
  else
    let t := holdRun e i r.cls (extendRun m post d r) t
    match t.tracker.runs[i] with
    | some r => if post - r.start + 1 = 4096 then closeRun e i m .truncated r t else t
    | none => t

/-- An OPEN measure counts `n` posts in the gap; the run closes with cause GAP as soon as the count passes G
(R134, R135). `missing` says that the posts are no data. -/
def countGap (e : TrackEnv) (i : Fin 8) (m : TrackedMeasure) (n : Nat) (missing : Bool) (r : OpenRun) (t : Tracks) :
    Tracks :=
  let r := { r with gap := min (r.gap + n) (m.g + 1), hadMissing := r.hadMissing || missing }
  if m.g < r.gap then closeRun e i m .gap r t else t.setRun i (some r)

/-- The skipped posts before a record: an OPEN measure counts each as one no-data post, an IDLE one disregards them
(R135). -/
def takeSkipped (e : TrackEnv) (i : Fin 8) (m : TrackedMeasure) (n : Nat) (t : Tracks) : Tracks :=
  match t.tracker.runs[i] with
  | none => t
  | some r => if n = 0 then t else countGap e i m n true r t

/-- The record's own post (R132 to R134). -/
def takePost (e : TrackEnv) (i : Fin 8) (m : TrackedMeasure) (g : GeometryRecord) (t : Tracks) : Tracks :=
  match t.tracker.runs[i], deviation m g with
  | none, none => t
  | none, some d => takeIdle e i m g.trackPost d t
  | some r, none => countGap e i m 1 true r t
  | some r, some d =>
    if exceeding m d then takeExceeding e i m g.trackPost d r t else countGap e i m 1 false r t

/-- One measure carried through its steps for one record (R129, R135). -/
def evaluateMeasure (e : TrackEnv) (g : GeometryRecord) (t : Tracks) (im : Fin 8 × TrackedMeasure) : Tracks :=
  takePost e im.1 im.2 g (takeSkipped e im.1 im.2 g.skippedBefore t)

/-- The tracked measures with their positions, ascending (R127). -/
def indexedMeasures (c : StationConfig) : List (Fin 8 × TrackedMeasure) := eight.zip c.measures

/-- The tracker evaluates a record: each tracked measure in ascending index (R129). -/
def evaluateRecord (e : TrackEnv) (g : GeometryRecord) (t : Tracks) : Tracks :=
  (indexedMeasures e.cfg).foldl (evaluateMeasure e g) t

/-- Close the open run of one measure with cause FORCED (R140). -/
def forceMeasure (e : TrackEnv) (t : Tracks) (im : Fin 8 × TrackedMeasure) : Tracks :=
  match t.tracker.runs[im.1] with
  | none => t
  | some r => closeRun e im.1 im.2 .forced r t

/-- DISARM and RESYNC: every open run closes with cause FORCED, in ascending index (R140). -/
def forceRuns (e : TrackEnv) (t : Tracks) : Tracks := (indexedMeasures e.cfg).foldl (forceMeasure e) t

end Sys2Proof.Machine
end

