-- ==== Sys2Proof/Machine/PostWindow.lean ====
section
/-! DEFINITION. The Post Window (spec/04): rows, readiness, retirement with all that follows a retired row, expiry. -/

namespace Sys2Proof.Machine

/-- The blocks that a retirement may change: the window itself, the Result FIFO, the History Ring, and what the
evaluation of the record may change (R83, R106). -/
structure Flow where
  window : Window
  results : Results
  ring : List GeometryRecord
  tracks : Tracks
  deriving DecidableEq, Repr

/-- The blocks of a state that a retirement may change. -/
def State.flow (s : State) : Flow :=
  { window := s.window, results := s.results, ring := s.ring,
    tracks := { tracker := s.tracker, marker := s.marker, alert := s.alert } }

/-- The state with those blocks replaced. -/
def State.withFlow (s : State) (f : Flow) : State :=
  { s with window := f.window, results := f.results, ring := f.ring, tracker := f.tracks.tracker,
           marker := f.tracks.marker, alert := f.tracks.alert }

/-- How many of the oldest runs are held: those still to be shifted out of a TAKE_RUNS (R150). -/
def State.heldRuns (s : State) : Nat :=
  match s.port.transaction with
  | some { shifting := .runs left, .. } => left
  | _ => 0

/-- What an evaluation reads of the state. -/
def State.trackEnv (s : State) : TrackEnv := { cfg := s.cfg, current := s.post, held := s.heldRuns }

/-! ### Rows -/

/-- Every slot of the needed set is present (R71). -/
def needsMet (c : StationConfig) (row : Row) : Bool :=
  eight.all fun i => !inSet c.needed i || row.slots[i].isSome

/-- The test of R71: a row whose needed set is present is READY; once READY it stays READY. -/
def judgeRow (c : StationConfig) (row : Row) : Row :=
  { row with state := if needsMet c row then .ready else row.state }

/-- A row of all slots absent (R74). -/
def emptySlots : Vector (Option Slot) 8 := Vector.replicate 8 none

/-- The row opened at a latch event: own slot filled, peer slots absent (R73). -/
def latchedRow (c : StationConfig) (post skipped : Nat) (speed : Option Nat) (own : Slot) : Row :=
  judgeRow c { post, state := .opened, origin := .latched, skippedBefore := skipped, speed,
               slots := emptySlots.set c.station (some own) }

/-- The row opened by an implicit adoption: every slot absent (R74). -/
def unlatchedRow (c : StationConfig) (post skipped : Nat) : Row :=
  judgeRow c { post, state := .opened, origin := .noOwnLatch, skippedBefore := skipped, speed := none,
               slots := emptySlots }

/-- A peer sample fills its sender's slot, and the row is tested (R77, R71). -/
def fillSlot (c : StationConfig) (sender : Fin 8) (x : Sample) (row : Row) : Row :=
  judgeRow c { row with slots := row.slots.set sender (some { sample := x, gdev := none }) }

/-! ### Retirement -/

/-- Each absent needed peer's missed-row counter rises by 1 (R81). -/
def countMissed (missing : Byte) (counters : Vector Nat 8) : Vector Nat 8 :=
  tabulate fun i => if inSet missing i then addSat16 counters[i] 1 else counters[i]

/-- A row retires: missed-row counters, the PEER edge, its geometry record to the Result FIFO, the History Ring and
the Exceedance Tracker (R81 to R83, R92, R106). -/
def retireRow (e : TrackEnv) (row : Row) (f : Flow) : Flow :=
  let missing := missingPeers e.cfg row
  let g := recordOf e.cfg f.ring row
  { window := { f.window with missed := countMissed missing f.window.missed }
    results := f.results.store g
    ring := ringAppend g f.ring
    tracks := evaluateRecord e g { f.tracks with alert := f.tracks.alert.raiseIf (missing != 0) peerEdge } }

/-- Rows retire from the oldest end while `leaves` holds of the oldest; the others stay (R72, R80). -/
def retireWhile (e : TrackEnv) (leaves : Row → Bool) : List Row → Flow → Flow
  | [], f => { f with window := { f.window with rows := [] } }
  | row :: rest, f =>
    if leaves row then retireWhile e leaves rest (retireRow e row f)
    else { f with window := { f.window with rows := row :: rest } }

/-- The row leaves because it is READY (R80). -/
def Row.isReady (row : Row) : Bool := row.state == .ready

/-- The row has fallen to `p - w` or below (R72). -/
def Row.expired (w p : Nat) (row : Row) : Bool := decide (row.post + w ≤ p)

/-- The window tests its oldest row, and the next, until it is empty or its oldest row is OPEN (R80). -/
def State.settleRows (s : State) : State :=
  s.withFlow (retireWhile s.trackEnv Row.isReady s.window.rows s.flow)

/-- At a post advance to `p` every row at `p - W` or below retires, oldest first, and READY rows behind it (R72). -/
def State.expireRows (p : Nat) (s : State) : State :=
  s.withFlow (retireWhile s.trackEnv (fun row => row.expired s.cfg.depth p || row.isReady) s.window.rows s.flow)

/-- A row is opened at the young end of the window, and the window is tested (R73, R74, R80). -/
def State.openRow (row : Row) (s : State) : State :=
  { s with window := { s.window with rows := s.window.rows ++ [row] } }.settleRows

/-- The rows with the sample stored in the row for its post (R77). -/
def storeIn (c : StationConfig) (sender : Fin 8) (post : Nat) (x : Sample) (rows : List Row) : List Row :=
  rows.map fun row => if row.post = post then fillSlot c sender x row else row

/-- Store a peer sample, test its row and then the window (R77). -/
def State.storeSample (sender : Fin 8) (post : Nat) (x : Sample) (s : State) : State :=
  { s with window := { s.window with rows := storeIn s.cfg sender post x s.window.rows } }.settleRows

end Sys2Proof.Machine
end

