-- ==== Sys2Proof/Machine/Pacing.lean ====
section
/-! DEFINITION. Pacing (spec/01), the station's samples (spec/02, section 2.5) and the local quantities (spec/03):
what a new post brings about, in the order of R15, R21 and R22. -/

namespace Sys2Proof.Machine

/-! ### Requests and A -/

/-- The index a mark request carries: 1 while there is no current post, else the current post + 1 (R10). -/
def State.nextIndex (s : State) : Nat := s.post + 1

/-- All conditions of R10 for placing a mark request hold. -/
def State.mayRequest (s : State) : Bool :=
  s.armed && decide (pitch ≤ s.odo.acc) && !s.odo.tachFault && s.bus.mode == .active && s.bus.slot.isNone &&
    s.pacer.currentPost != some maxPost

/-- Place a mark request when the conditions hold (R10). -/
def State.testRequest (s : State) : State :=
  { s with bus := { s.bus with slot := if s.mayRequest then some s.nextIndex else s.bus.slot } }

/-! ### Local quantities (R56 to R63) -/

/-- A raw value calibrated, with CLAMPED when its clamp acted and the flags of R58. -/
def calibrate (k : Calibration) (raw : Int) (held clipped : Bool) : Value :=
  clampedValue (roundDiv ((raw - k.offset) * k.gain) 4096) { held, clipped, clamped := false }

/-- The five calibrated channels of a set (R58). -/
def calibrateSet (c : StationConfig) (held : Bool) (x : SensorSet) : Channels Value :=
  { gL := calibrate c.calibration.gL x.raw.gL held x.overRange.gL
    gR := calibrate c.calibration.gR x.raw.gR held x.overRange.gR
    zL := calibrate c.calibration.zL x.raw.zL held x.overRange.zL
    zR := calibrate c.calibration.zR x.raw.zR held x.overRange.zR
    rho := calibrate c.calibration.rho x.raw.rho held x.overRange.rho }

/-- The gauge deviation (R59). -/
def gaugeDeviation (v : Channels Value) : Value := clampedValue (v.gL.dc + v.gR.dc) (v.gL.flags.union v.gR.flags)

/-- The alignment offset (R60). -/
def alignmentOffset (v : Channels Value) : Value :=
  clampedValue (roundDiv (v.gR.dc - v.gL.dc) 2) (v.gL.flags.union v.gR.flags)

/-- The cant (R62). -/
def cantOf (v : Channels Value) : Value :=
  clampedValue (v.rho.dc + v.zL.dc - v.zR.dc) ((v.rho.flags.union v.zL.flags).union v.zR.flags)

/-- The quantities of five calibrated channels (R59 to R62). -/
def quantitiesOf (v : Channels Value) : Slot :=
  { sample := { yA := some (alignmentOffset v), zL := some v.zL, zR := some v.zR, cant := some (cantOf v) }
    gdev := some (gaugeDeviation v) }

/-- All five quantities absent (R57). -/
def noQuantities : Slot := { sample := { yA := none, zL := none, zR := none, cant := none }, gdev := none }

/-- The sensor age exceeds the stale limit (R58). -/
def State.setIsOld (s : State) : Bool :=
  match s.sensor.age with
  | none => false
  | some age => decide (s.staleLimit < age)

/-- The local quantities of a latch (R57, R58, R63). -/
def State.localQuantities (s : State) : Slot :=
  match s.sensor.latest with
  | none => noQuantities
  | some x => quantitiesOf (calibrateSet s.cfg s.setIsOld x)

/-! ### Speed (R5, R6) -/

/-- The speed of an interval in µs (R6). -/
def speedOf (interval : Nat) : Nat := if interval = 0 then 65535 else min 65535 (25000000 / interval)

/-- The speed at a latch for post `n`: present when the last latch was for `n - 1` (R5). -/
def State.latchSpeed (n : Nat) (s : State) : Option Nat :=
  match s.odo.lastLatch with
  | none => none
  | some l => if l.post + 1 = n then some (speedOf l.interval) else none

/-! ### The post advance (R22) -/

/-- The Marker Scheduler at a post advance (R158, R159): MARK is raised when an action is MISSED. -/
def State.advanceMarker (p : Nat) (s : State) : State :=
  { s with marker := s.marker.advance s.cfg p
           alert := s.alert.raiseIf (!(passedActions p s.marker.queue).isEmpty) markEdge }

/-- A queued sample is obsolete at current post `p`: its post is `p - w` or lower (R38). -/
def QueuedSample.obsolete (w p : Nat) (q : QueuedSample) : Bool := decide (q.post + w ≤ p)

/-- The Bus Controller at a post advance: obsolete samples are removed and counted (R38). -/
def Bus.shed (w p : Nat) (b : Bus) : Bus :=
  { b with queue := b.queue.filter fun q => !q.obsolete w p
           samplesShed := addSat16 b.samplesShed (b.queue.filter fun q => q.obsolete w p).length }

/-- The post advance to `p`: marker, bus, window, in this order (R22, R159). -/
def State.postAdvance (p : Nat) (s : State) : State :=
  let s := s.advanceMarker p
  { s with bus := s.bus.shed s.cfg.depth p }.expireRows p

/-! ### The latch event (R21) -/

/-- The Odometry Unit makes `n` and the present time the last latch (R5). -/
def State.closeInterval (n : Nat) (s : State) : State :=
  { s with odo := { s.odo with lastLatch := some { post := n, time := s.timer, interval := 0 } } }

/-- The Bus Controller queues the station's sample: the oldest is shed when four are held; nothing in LISTEN_ONLY
(R37, R33). -/
def Bus.append (q : QueuedSample) (b : Bus) : Bus :=
  if b.mode = .listenOnly then b
  else if 4 ≤ b.queue.length then
    { b with queue := b.queue.drop 1 ++ [q], samplesShed := addSat16 b.samplesShed 1 }
  else { b with queue := b.queue ++ [q] }

/-- The latch event for post `n` with its skipped count, taken by the Odometry Unit, the Sensor Input Port, the
Post Window and the Station Bus Controller (R21). -/
def State.latch (n skipped : Nat) (s : State) : State :=
  let speed := s.latchSpeed n
  let own := s.localQuantities
  let s := (s.closeInterval n).openRow (latchedRow s.cfg n skipped speed own)
  { s with bus := s.bus.append { post := n, sample := own.sample } }

/-! ### Adoption -/

/-- The tach-loss limit in µs (R4, R187). -/
def State.tachLossLimit (s : State) : Nat := s.cfg.tachLossSteps * 10000

/-- The edge age is none or beyond the tach-loss limit (R4). -/
def State.axleSilent (s : State) : Bool :=
  match s.odo.edgeAge with
  | none => true
  | some age => decide (s.tachLossLimit < age)

/-- The skipped count of an adoption of `n`: none in JOINING, else the posts passed over, saturating (R16, R19). -/
def State.skippedCount (n : Nat) (s : State) : Nat :=
  match s.pacer.currentPost with
  | none => 0
  | some c => min 65535 (n - c - 1)

/-- A mark request of index `n` or lower is withdrawn (R12). -/
def withdraw (n : Nat) (slot : Option Nat) : Option Nat :=
  match slot with
  | none => none
  | some k => if k ≤ n then none else some k

/-- The current post becomes `n`, and the station RUNNING (R13, R15, R19). -/
def State.enterPost (n : Nat) (s : State) : State :=
  { s with pacer := { s.pacer with currentPost := some n }
           control := { s.control with station := .running } }

/-- The Post Pacer takes `n` from a peer: the request is withdrawn, the tach-fault condition tested, A set to 0, and
the current post becomes `n` (R15, R19, R20). -/
def State.takeIndex (n : Nat) (s : State) : State :=
  { s with odo := { s.odo with acc := 0, tachFault := s.odo.tachFault || s.axleSilent }
           bus := { s.bus with slot := withdraw n s.bus.slot } }.enterPost n

/-- Adoption of a foreign mark `n`: post advance, then latch event (R15, R19, R21, R22). -/
def State.adoptMark (n : Nat) (s : State) : State :=
  ((s.takeIndex n).postAdvance n).latch n (s.skippedCount n)

/-- Implicit adoption of `n`: post advance without a latch event, and the NO_OWN_LATCH row (R20, R74). -/
def State.adoptSilently (n : Nat) (s : State) : State :=
  let t := (s.takeIndex n).postAdvance n
  t.openRow (unlatchedRow s.cfg n (s.skippedCount n))

/-- The Post Pacer takes the completion of the own mark `k` (R13): the current post becomes `k`, one pitch leaves A,
post advance and latch event, and the conditions of R10 are tested again. -/
def State.completeMark (k : Nat) (s : State) : State :=
  let s := { s with odo := { s.odo with acc := clampAcc (s.odo.acc - pitch) } }.enterPost k
  ((s.postAdvance k).latch k 0).testRequest

/-! ### Foreign marks -/

/-- A mark not adopted is counted (R14, R17, R25). -/
def State.countConflict (s : State) : State :=
  { s with pacer := { s.pacer with markConflict := addSat16 s.pacer.markConflict 1 } }

/-- The Post Pacer may adopt index `n`: a post index above the current post, or any while there is none
(R14, R15, R19). -/
def State.mayAdopt (n : Nat) (s : State) : Bool := decide (1 ≤ n) && decide (n ≤ maxPost) && decide (s.post < n)

/-- A delivered mark with index `n` (R9, R14, R15, R17, R19). -/
def State.takeMark (n : Nat) (s : State) : State :=
  if !s.armed then s
  else if s.mayAdopt n then s.adoptMark n
  else s.countConflict

/-! ### Delivered samples -/

/-- A row for post `n` is held. -/
def State.rowFor (n : Nat) (s : State) : Option Row := s.window.rows.find? fun row => row.post == n

/-- A delivered peer sample, one of the four cases of R76: implicit adoption and storing, storing, duplicate, late. -/
def State.takeSample (sender : Fin 8) (n : Nat) (x : Sample) (s : State) : State :=
  if s.post < n then (s.adoptSilently n).storeSample sender n x
  else
    match s.rowFor n with
    | some row =>
      if row.slots[sender].isNone then s.storeSample sender n x
      else { s with window := { s.window with duplicateSamples := addSat16 s.window.duplicateSamples 1 } }
    | none =>
      { s with window := { s.window with late := s.window.late.set sender (addSat16 s.window.late[sender] 1) } }

end Sys2Proof.Machine
end

