-- ==== Sys2Proof/Machine/BusEvents.lean ====
section
/-! DEFINITION. The events of the station bus (spec/02): idle gap, arbitration, transmit errors, own frames sent,
frames received. -/

namespace Sys2Proof.Machine

/-- The frame the controller offers at an idle gap: the pending mark, else the head sample, while ACTIVE (R35, R33). -/
def State.nextFrame (s : State) : Option TxFrame :=
  if s.bus.mode = .listenOnly then none
  else
    match s.bus.slot with
    | some k => some (.mark (ownMark s.cfg.station k))
    | none => s.bus.queue.head?.map fun q => .sample (ownSample s.cfg.station q)

/-- The bus has been released for 12 bit times: an aborted frame has run out (R27), the receiver may take frames from now
on (R47), and a waiting frame begins (R27, R35). The state holds no level of the idle bus, since no row tells that a peer's
frame has begun: a frame that becomes ready while the bus is idle begins at the next such event, which recurs for as long
as the bus stays idle (the model's choice, assumption log 25). -/
def State.idleGap (s : State) : State :=
  let begun := s.nextFrame.map fun frame => { frame, owned := true }
  { s with bus := { s.bus with heardIdle := true
                               aborted := none
                               sending := if s.bus.sending.isNone then begun else s.bus.sending } }

/-- BUS_IDLE_GAP (R27, R35). -/
def execBusIdleGap (s : State) : Host.Outcome State Fault Refusal := .next (s.powered State.idleGap)

/-- A difference at frame bit `bit` loses arbitration: a key bit, sent released (R29). -/
def losesArbitration (frame : TxFrame) (bit : Nat) : Bool :=
  decide (1 ≤ bit) && decide (bit ≤ 4) && (frameBits frame)[bit]? == some true

/-- A difference at frame bit `bit` is a transmit error: a driven key bit (R30), or any bit from 5 to the end (R31). -/
def isTransmitError (frame : TxFrame) (bit : Nat) : Bool :=
  decide (1 ≤ bit) && decide (bit < (frameBits frame).length) && !losesArbitration frame bit

/-- The station stops driving; a frame of the slot or queue stays there (R29). -/
def State.loseArbitration (bit : Nat) (s : State) : State :=
  match s.bus.sending with
  | none => s
  | some x => if losesArbitration x.frame bit then { s with bus := { s.bus with sending := none } } else s

/-- ARBITRATION_LOST (R29). -/
def execArbitrationLost (bit : Nat) (s : State) : Host.Outcome State Fault Refusal :=
  .next (s.powered (State.loseArbitration bit))

/-- The transmit error counter rises by 1; at 32 the mode becomes LISTEN_ONLY and slot and queue are emptied
(R32, R33). -/
def Bus.countError (b : Bus) : Bus :=
  if 32 ≤ b.txErrors + 1 then { b with txErrors := 32, mode := .listenOnly, slot := none, queue := [] }
  else { b with txErrors := b.txErrors + 1 }

/-- The frame is aborted at `bit` and the error counted: the comparison has stopped, the line is driven for the rest of
the frame, and the frame of the slot or queue stays there (R31). -/
def State.abortFrame (bit : Nat) (s : State) : State :=
  match s.bus.sending with
  | none => s
  | some x =>
    if isTransmitError x.frame bit then
      { s with bus := { s.bus with sending := none, aborted := some { frame := x.frame, bit } }.countError }
    else s

/-- The bits an aborted frame puts on the line: its own up to the one in error, driven from there to its end (R31). -/
def AbortedFrame.bits (a : AbortedFrame) : List Bool :=
  (frameBits a.frame).take (a.bit + 1) ++ List.replicate ((frameBits a.frame).length - (a.bit + 1)) false

/-- The bits of the attempt with which the station is on the line, driven being false: the frame being sent, or the aborted
one being driven out; none while it leaves the line released (R27, R31, R181). -/
def State.busBits (s : State) : Option (List Bool) :=
  if s.resetn then
    match s.bus.sending with
    | some x => some (frameBits x.frame)
    | none => s.bus.aborted.map AbortedFrame.bits
  else none

/-- TRANSMIT_ERROR (R30 to R33). -/
def execTransmitError (bit : Nat) (s : State) : Host.Outcome State Fault Refusal :=
  .next (s.powered (State.abortFrame bit))

/-- A frame sent to its end without error: the counter falls by 1, not below 0 (R32). -/
def Bus.frameSent (b : Bus) : Bus := { b with txErrors := b.txErrors - 1, sending := none }

/-- The own mark has ended without error: the slot is emptied and the Post Pacer takes the completion; a frame that no
longer belongs to the slot is disregarded by the Pacer (R13, R34, R36). -/
def State.markSent (s : State) : State :=
  match s.bus.sending with
  | some { frame := .mark f, owned := true } =>
    { s with bus := { s.bus.frameSent with slot := none } }.completeMark f.post.toNat
  | some { frame := .mark _, owned := false } => { s with bus := s.bus.frameSent }
  | _ => s

/-- OWN_MARK_COMPLETION (R13). -/
def execOwnMarkCompletion (s : State) : Host.Outcome State Fault Refusal := .next (s.powered State.markSent)

/-- The own sample has ended without error: it leaves the head of the queue it still belongs to (R39, R34). -/
def State.sampleSent (s : State) : State :=
  match s.bus.sending with
  | some { frame := .sample _, owned := true } =>
    { s with bus := { s.bus.frameSent with queue := s.bus.queue.drop 1 } }
  | some { frame := .sample _, owned := false } => { s with bus := s.bus.frameSent }
  | _ => s

/-- OWN_SAMPLE_SENT (R39). -/
def execOwnSampleSent (s : State) : Host.Outcome State Fault Refusal := .next (s.powered State.sampleSent)

/-- The receiver takes frames: it has heard the bus idle since power-on reset (R47), and the station is neither sending
(R18, R43; assumption log 14) nor driving out a frame it aborted, which it does not receive (R31). -/
def State.receives (s : State) : Bool := s.bus.heardIdle && s.bus.sending.isNone && s.bus.aborted.isNone

/-- A frame is discarded and counted in CRC-error (R40, R42). -/
def State.countCrcError (s : State) : State :=
  { s with bus := { s.bus with crcErrors := addSat16 s.bus.crcErrors 1 } }

/-- A received MARK frame ends: checked, and delivered to the Post Pacer when it is good (R40, R41). -/
def State.receiveMark (f : MarkFrame) (s : State) : State :=
  if !s.receives then s
  else if markGood f then s.takeMark f.post.toNat
  else s.countCrcError

/-- MARK_FRAME (R40, R41). -/
def execMarkFrame (f : MarkFrame) (s : State) : Host.Outcome State Fault Refusal := .next (s.powered (State.receiveMark f))

/-- A sample with the own number: discarded, counted, the duplicate-station condition set (R44). -/
def State.countDuplicateStation (s : State) : State :=
  { s with bus := { s.bus with duplicate := true, duplicateStations := addSat16 s.bus.duplicateStations 1 } }

/-- A SAMPLE frame that passed the check is delivered or disposed of (R42, R44). One with the own number and a post that is
no post index meets two rows of R42's table: that R44 alone is applied to it is the model's choice (assumption log 26). -/
def State.disposeSample (f : SampleFrame) (s : State) : State :=
  if !s.armed then s
  else if senderOf f.sender = s.cfg.station then s.countDuplicateStation
  else if f.post.toNat = 0 ∨ maxPost < f.post.toNat then s.countCrcError
  else s.takeSample (senderOf f.sender) f.post.toNat (frameSample f)

/-- A received SAMPLE frame ends (R40, R42). -/
def State.receiveSample (f : SampleFrame) (s : State) : State :=
  if !s.receives then s
  else if sampleGood f then s.disposeSample f
  else s.countCrcError

/-- SAMPLE_FRAME (R40, R42). -/
def execSampleFrame (f : SampleFrame) (s : State) : Host.Outcome State Fault Refusal :=
  .next (s.powered (State.receiveSample f))

end Sys2Proof.Machine
end

