-- ==== Sys2Proof/Machine/ConfigBlock.lean ====
section
/-! DEFINITION. The configuration block (R185): how it is judged (R186, R189) and its effective values (R187). -/

namespace Sys2Proof.Machine

/-- The fixed length of the block (R185). -/
def blockLength : Nat := 183

/-- The check bytes match (R185). -/
def blockCheckOk (b : List Byte) : Bool := u16At b 181 == (crcBytes (b.take 181)).toNat

/-! ### The entries' places -/

/-- Where chord entry `i + 1` begins. -/
def chordAt (i : Nat) : Nat := 29 + 7 * i

/-- Where twist entry `i + 1` begins. -/
def twistAt (i : Nat) : Nat := 58 + 2 * i

/-- Where tracked-measure entry `i + 1` begins. -/
def measureAt (i : Nat) : Nat := 63 + 13 * i

/-- Where the nozzle entry begins, LEFT first. -/
def nozzleAt : Nozzle → Nat
  | .left => 167
  | .right => 173

/-! ### Judging (R186) -/

/-- A chord entry breaks no refusal of R90. -/
def chordOk (b : List Byte) (i : Nat) : Bool :=
  let f := byteAt b (chordAt i)
  let r := byteAt b (chordAt i + 1)
  decide (f ≤ 7) && decide (r ≤ 7) && f != r && f != byteAt b 0 && r != byteAt b 0 &&
    decide (byteAt b (chordAt i + 4) ≤ 2)

/-- A twist entry breaks no refusal of R91. -/
def twistOk (b : List Byte) (i : Nat) : Bool :=
  let kind := byteAt b (twistAt i)
  let x := byteAt b (twistAt i + 1)
  decide (kind ≤ 1) && (kind == 1 || (decide (x ≤ 7) && x != byteAt b 0))

/-- A tracked-measure entry breaks no refusal of R127: a code of the eight, and no chord or twist beyond the plan. -/
def measureOk (b : List Byte) (i : Nat) : Bool :=
  let code := byteAt b (measureAt i)
  decide (code ≤ 1) || (decide (2 ≤ code) && decide (code ≤ 5) && decide (code - 1 ≤ byteAt b 28)) ||
    (decide (6 ≤ code) && decide (code ≤ 7) && decide (code - 5 ≤ byteAt b 57))

/-- A nozzle entry breaks no refusal of R154: a fitted code, and for a fitted nozzle an anchor code. -/
def nozzleOk (b : List Byte) (x : Nozzle) : Bool :=
  byteAt b (nozzleAt x) == 0 || (byteAt b (nozzleAt x) == 1 && decide (byteAt b (nozzleAt x + 3) ≤ 1))

/-- Group Identity is not refused. -/
def identityOk (b : List Byte) : Bool := decide (byteAt b 0 ≤ 7)

/-- Group Odometry is not refused. -/
def odometryOk (b : List Byte) : Bool := u16At b 2 != 0 && decide (byteAt b 4 ≤ 1)

/-- Group Plan is not refused. -/
def planOk (b : List Byte) : Bool :=
  decide (byteAt b 28 ≤ 4) && (List.range (byteAt b 28)).all (chordOk b) &&
    (decide (byteAt b 57 ≤ 2) && (List.range (byteAt b 57)).all (twistOk b))

/-- Group Tracking is not refused. -/
def trackingOk (b : List Byte) : Bool := decide (byteAt b 62 ≤ 8) && (List.range (byteAt b 62)).all (measureOk b)

/-- Group Marking is not refused. -/
def markingOk (b : List Byte) : Bool := nozzleOk b .left && nozzleOk b .right

/-- Why a block is refused: CHECK, else the first group in block order with a refused field; NONE when it is accepted
(R186, R189). -/
def judgeBlock (b : List Byte) : RefusalCause :=
  if !blockCheckOk b then .check
  else if !identityOk b then .identity
  else if !odometryOk b then .odometry
  else if !planOk b then .plan
  else if !trackingOk b then .tracking
  else if !markingOk b then .marking
  else .none

/-! ### Effective values (R187) -/

/-- Clamp an unsigned field into `lo..hi`. -/
def clampField (lo hi n : Nat) : Nat := max lo (min hi n)

/-- The station number a byte gives; an accepted block holds 0 to 7 there. -/
def stationField (n : Nat) : Fin 8 := ⟨n % 8, Nat.mod_lt _ (by decide)⟩

/-- Calibration constants, offset then gain (R185). -/
def calibrationField (b : List Byte) (i : Nat) : Calibration := { offset := s16At b i, gain := u16At b (i + 2) }

/-- The quantity a code names (R185). -/
def quantityField (code : Nat) : Quantity :=
  if code = 0 then .alignment else if code = 1 then .topLeft else .topRight

/-- The effective chord entry (R90). -/
def chordField (b : List Byte) (i : Nat) : Chord :=
  { front := stationField (byteAt b (chordAt i)), rear := stationField (byteAt b (chordAt i + 1))
    a := max 1 (byteAt b (chordAt i + 2)), b := max 1 (byteAt b (chordAt i + 3))
    quantity := quantityField (byteAt b (chordAt i + 4)), k := max 1 (u16At b (chordAt i + 5)) }

/-- The effective twist entry (R91). -/
def twistField (b : List Byte) (i : Nat) : Twist :=
  if byteAt b (twistAt i) = 0 then .partner (stationField (byteAt b (twistAt i + 1)))
  else .history (max 1 (byteAt b (twistAt i + 1)))

/-- The measure a code names (R185). -/
def measureCode (code : Nat) : Measure :=
  if code = 0 then .gdev
  else if code = 1 then .cant
  else if code ≤ 5 then .chord ⟨(code - 2) % 4, Nat.mod_lt _ (by decide)⟩
  else .twist ⟨(code - 6) % 2, Nat.mod_lt _ (by decide)⟩

/-- The effective tracked-measure entry, clamped in the order of R128. -/
def measureField (b : List Byte) (i : Nat) : TrackedMeasure :=
  let at' := measureAt i
  let l1 := min 32767 (u16At b (at' + 3))
  let l2 := max (min 32767 (u16At b (at' + 5))) l1
  let l3 := max (min 32767 (u16At b (at' + 7))) l2
  { measure := measureCode (byteAt b at'), nominal := s16At b (at' + 1), l1, l2, l3
    h := min l1 (u16At b (at' + 9)), g := min 15 (byteAt b (at' + 11)), m := max 1 (byteAt b (at' + 12)) }

/-- The effective nozzle entry: none when it is not fitted; indices above the tracked-measure count leave the mask
(R154). -/
def nozzleField (b : List Byte) (x : Nozzle) : Option NozzleConfig :=
  let at' := nozzleAt x
  if byteAt b at' = 0 then none
  else some
    { offset := max 1 (byteAt b (at' + 1)), minClass := clampField 1 3 (byteAt b (at' + 2))
      anchor := if byteAt b (at' + 3) = 0 then .start else .peak
      pulse := max 1 (byteAt b (at' + 4))
      mask := setWhere fun i => (b.getD (at' + 5) 0).getLsbD i && decide (i.val < byteAt b 62) }

/-- The stations a plan entry names (R70). -/
def chordNames (c : Chord) (i : Fin 8) : Bool := c.front == i || c.rear == i

/-- The station a PARTNER twist names (R70). -/
def twistNames : Twist → Fin 8 → Bool
  | .partner station, i => station == i
  | .history _, _ => false

/-- The needed set: the own number and every station the plan names (R70). -/
def neededSet (own : Fin 8) (chords : List Chord) (twists : List Twist) : Byte :=
  setWhere fun i => own == i || chords.any (chordNames · i) || twists.any (twistNames · i)

/-- The effective values of an accepted block (R185, R187). -/
def effective (b : List Byte) : StationConfig :=
  let own := stationField (byteAt b 0)
  let chords := (List.range (byteAt b 28)).map (chordField b)
  let twists := (List.range (byteAt b 57)).map (twistField b)
  { station := own
    carOffset := byteAt b 1
    edgeDistance := u16At b 2
    inverted := byteAt b 4 == 1
    tachLossSteps := max 1 (byteAt b 5)
    depth := clampField 4 16 (byteAt b 6)
    staleMs := max 1 (byteAt b 7)
    calibration := { gL := calibrationField b 8, gR := calibrationField b 12, zL := calibrationField b 16,
                     zR := calibrationField b 20, rho := calibrationField b 24 }
    chords, twists
    measures := (List.range (byteAt b 62)).map (measureField b)
    leftNozzle := nozzleField b .left
    rightNozzle := nozzleField b .right
    autoEnd := (b.getD 179 0).getLsbD 0
    watermark := clampField 1 64 (byteAt b 180)
    needed := neededSet own chords twists }

end Sys2Proof.Machine
end

