-- ==== Sys2Proof/Machine/StatusBlock.lean ====
section
/-! DEFINITION. The responses of IDENTIFY (R199) and READ_STATUS (R200). -/

namespace Sys2Proof.Machine

/-- The code of a station state (R199). -/
def stateCode : StationState → Byte
  | .selfTest => 0
  | .fault => 1
  | .unconfigured => 2
  | .configured => 3
  | .joining => 4
  | .running => 5

/-- The code of a refusal cause (R200). -/
def refusalCode : RefusalCause → Byte
  | .none => 0
  | .check => 1
  | .identity => 2
  | .odometry => 3
  | .plan => 4
  | .tracking => 5
  | .marking => 6

/-- A free byte of the response being formed (assumption log 7). -/
def State.freeByte (s : State) (index : Nat) : Byte := Config.freeByte s.draws index

/-- Byte `index` of a response whose bits in `unstated` the manual gives no meaning: those are free (log 7). -/
def State.withUnstated (s : State) (index : Nat) (unstated stated : Byte) : Byte :=
  (stated &&& ~~~unstated) ||| (s.freeByte index &&& unstated)

/-- The model draws the free values of its next response elsewhere (assumption log 7). -/
def State.drawn (s : State) : State := { s with draws := s.draws + 1 }

/-! ### IDENTIFY -/

/-- The self-test result byte: 0 throughout SELF_TEST, else bit n for memory n (R199). -/
def State.resultByte (s : State) : Byte :=
  if s.control.station = .selfTest then 0 else s.withUnstated 3 0xE0 (s.control.selfTest.setWidth 8)

/-- The station number while the lock is set, else 255 (R199). -/
def State.numberByte (s : State) : Byte := if s.control.lock then u8 s.cfg.station else 255

/-- The six bytes of IDENTIFY: part code 1046, revision 1, self-test result, state, station number (R199). That the part
code has its high byte first is the model's reading (assumption log 27). -/
def State.identity (s : State) : List Byte :=
  u16 1046 ++ [1, s.resultByte, stateCode s.control.station, s.numberByte]

/-! ### READ_STATUS -/

/-- Bytes 0 to 12: station and pacing. -/
def State.statusPacing (s : State) : List Byte :=
  [stateCode s.control.station, refusalCode s.control.refusal] ++ u32 s.post ++ s32 s.odo.acc ++
    [s.withUnstated 10 0xFC (byteOf s.reversing s.odo.tachFault false false false false false false)] ++
    u16 s.pacer.markConflict

/-- Bytes 13 to 21: the station bus. -/
def State.statusBus (s : State) : List Byte :=
  [s.withUnstated 13 0xF8
      (byteOf (s.bus.mode == .listenOnly) s.bus.duplicate s.bus.slot.isSome false false false false false),
    u8 s.bus.txErrors, u8 s.bus.queue.length] ++
    u16 s.bus.crcErrors ++ u16 s.bus.samplesShed ++ u16 s.bus.duplicateStations

/-- Byte 22: whether a set is held, its over-range flags, whether the age is none. -/
def State.statusSet (s : State) : Byte :=
  match s.sensor.latest with
  | none => s.withUnstated 22 0xBE (byteOf false false false false false false s.sensor.age.isNone false)
  | some x => s.withUnstated 22 0x80 (byteOf true x.overRange.gL x.overRange.gR x.overRange.zL x.overRange.zR
      x.overRange.rho s.sensor.age.isNone false)

/-- Bytes 23 to 32: the raw values, 0 when no frame is held. -/
def State.statusRaw (s : State) : List Byte :=
  match s.sensor.latest with
  | none => List.replicate 10 0
  | some x => s16 x.raw.gL ++ s16 x.raw.gR ++ s16 x.raw.zL ++ s16 x.raw.zR ++ s16 x.raw.rho

/-- Bytes 33 to 36: the sensor age; free while it is none (log 7). -/
def State.statusAge (s : State) : List Byte :=
  match s.sensor.age with
  | none => [s.freeByte 33, s.freeByte 34, s.freeByte 35, s.freeByte 36]
  | some age => u32 age

/-- Bytes 22 to 38: the sensor port. -/
def State.statusSensor (s : State) : List Byte :=
  [s.statusSet] ++ s.statusRaw ++ s.statusAge ++ u16 s.sensor.frameErrors

/-- A car post field, 0 when there is none (R200). -/
def postField (post : Option Nat) : List Byte := u32 (post.getD 0)

/-- Bytes 39 to 78: the Post Window. -/
def State.statusWindow (s : State) : List Byte :=
  [u8 s.cfg.depth, u8 s.window.rows.length] ++ postField (s.window.rows.head?.map Row.post) ++
    s.window.late.toList.flatMap u16 ++ u16 s.window.duplicateSamples ++ s.window.missed.toList.flatMap u16

/-- Bytes 79 to 93: the Result FIFO and the History Ring. -/
def State.statusResults (s : State) : List Byte :=
  [u8 s.results.fifo.length, u8 s.cfg.watermark, u8 s.results.tally] ++ u16 s.results.lost ++ u16 s.ring.length ++
    postField (s.ring.head?.map GeometryRecord.carPost) ++ postField (s.ring.getLast?.map GeometryRecord.carPost)

/-- The state byte and the start field of a tracked measure (R200): the first of its 15 bytes stands at `index`. -/
def State.statusRun (s : State) (index : Nat) : Option OpenRun → List Byte
  | none => s.withUnstated index 0x7F 0 :: u32 0
  | some r => s.withUnstated index 0x7C (0x80#8 ||| u8 r.cls) :: s32 r.start

/-- The 15 bytes of tracked measure `i + 1`; 0 beyond the configured count (R200). -/
def State.statusMeasure (s : State) (i : Fin 8) : List Byte :=
  match s.cfg.measures[i.val]? with
  | none => List.replicate 15 0
  | some m => s.statusRun (101 + 15 * i) s.tracker.runs[i] ++ u16 m.l1 ++ u16 m.l2 ++ u16 m.l3 ++ u16 m.h ++
      [u8 m.g, u8 m.m]

/-- Bytes 94 to 220: the Run Queue and the tracked measures. -/
def State.statusRuns (s : State) : List Byte :=
  [u8 s.tracker.queue.length] ++ be16 s.tracker.sequence ++ u16 s.tracker.spikes ++ u16 s.tracker.runsLost ++
    eight.flatMap s.statusMeasure

/-- The code of an anchor (R185). -/
def anchorCode : Anchor → Byte
  | .start => 0
  | .peak => 1

/-- The six bytes of a nozzle entry: 0 before a configuration is accepted; of a nozzle not fitted only the fitted code
is stated, the rest is free (R163, R185, log 8). -/
def State.statusNozzle (s : State) (x : Nozzle) (index : Nat) : List Byte :=
  match s.control.config with
  | none => List.replicate 6 0
  | some c =>
    match c.nozzle x with
    | none => [0, s.freeByte (index + 1), s.freeByte (index + 2), s.freeByte (index + 3), s.freeByte (index + 4),
        s.freeByte (index + 5)]
    | some n => [1, u8 n.offset, u8 n.minClass, anchorCode n.anchor, u8 n.pulse, n.mask]

/-- Byte 222: the head action's presence and nozzle. -/
def State.statusHead (s : State) : Byte :=
  match s.marker.queue.head? with
  | none => s.withUnstated 222 0xFE 0
  | some a => s.withUnstated 222 0xFC (byteOf true (a.nozzle == .right) false false false false false false)

/-- Bytes 221 to 248: marking. -/
def State.statusMarking (s : State) : List Byte :=
  [u8 s.marker.queue.length, s.statusHead] ++ postField (s.marker.queue.head?.map MarkAction.due) ++
    u32 s.marker.left.remaining ++ u32 s.marker.right.remaining ++ u16 s.marker.missed ++
    s.statusNozzle .left 237 ++ s.statusNozzle .right 243

/-- Bytes 249 to 255: the alerts and the two limits. -/
def State.statusAlerts (s : State) : List Byte :=
  [s.pendingSet, s.alert.mask, s.alert.inService, s.eligibleSet,
    s.withUnstated 253 0xF8 (byteOf s.alert.specialMask s.alert.autoEnd s.alertLine false false false false false),
    u8 s.cfg.staleMs, u8 s.cfg.tachLossSteps]

/-- Bytes 0 to 255 of READ_STATUS (R200). -/
def State.statusBody (s : State) : List Byte :=
  s.statusPacing ++ s.statusBus ++ s.statusSensor ++ s.statusWindow ++ s.statusResults ++ s.statusRuns ++
    s.statusMarking ++ s.statusAlerts

/-- The 258 bytes of READ_STATUS (R200). -/
def State.statusBytes (s : State) : List Byte := withCheck s.statusBody

end Sys2Proof.Machine
end

