-- ==== Sys2Proof/Machine/ControlCommands.lean ====
section
/-! DEFINITION. The recorder's commands to the station itself: IDENTIFY, READ_STATUS, LOAD_CONFIG, ARM, DISARM, RESYNC
and unknown commands (spec/10, spec/11). -/

namespace Sys2Proof.Machine

/-! ### IDENTIFY and READ_STATUS -/

/-- IDENTIFY is answered OK in every station state (R199). -/
def answerIdentify (s : State) : Reply × State := (okWith s.identity, s.drawn)

/-- IDENTIFY (R199). -/
def execIdentify (s : State) : Host.Outcome State Fault Refusal :=
  .next (s.powered (clockIn 1 [] false fun _ => answerIdentify))

/-- READ_STATUS is answered with the snapshot (R200). -/
def answerReadStatus (s : State) : Reply × State := (okWith s.statusBytes, s.drawn)

/-- READ_STATUS (R200); answered in FAULT too (R184). -/
def execReadStatus (s : State) : Host.Outcome State Fault Refusal :=
  .next (s.powered (clockIn 2 [] false fun _ => gated true answerReadStatus))

/-! ### LOAD_CONFIG -/

/-- An accepted block is stored and locked, and the station CONFIGURED; auto-end is set from it (R187, R188, R190). -/
def State.acceptBlock (b : List Byte) (s : State) : State :=
  { s with
    control := { s.control with station := .configured, block := some b, config := some (effective b), lock := true,
                                refusal := .none }
    alert := { s.alert with autoEnd := (effective b).autoEnd } }

/-- A refused block leaves the station as it was apart from the refusal cause (R188, R189). -/
def State.refuseBlock (cause : RefusalCause) (s : State) : State :=
  { s with control := { s.control with refusal := cause } }

/-- LOAD_CONFIG with a complete block, by the station state (R188). -/
def answerLoadConfig (b : List Byte) (s : State) : Reply × State :=
  if s.control.station = .unconfigured then
    if judgeBlock b = .none then (bare .ok, s.acceptBlock b) else (bare .badConfig, s.refuseBlock (judgeBlock b))
  else (bare .locked, s)

/-- LOAD_CONFIG (R188): 183 parameter bytes, the block. -/
def execLoadConfig (block : List Byte) (s : State) : Host.Outcome State Fault Refusal :=
  .next (s.powered (clockIn 16 block false fun b => gated false (answerLoadConfig b)))

/-! ### ARM, DISARM, RESYNC -/

/-- The Odometry Unit after ARM, DISARM or RESYNC (R7). -/
def Odometry.restarted (o : Odometry) : Odometry := { o with acc := 0, tachFault := false, lastLatch := none }

/-- A frame in progress no longer belongs to the slot or the queue (R34). -/
def Bus.detached (b : Bus) : Option Sending := b.sending.map fun x => { x with owned := false }

/-- The Station Bus Controller after DISARM or RESYNC (R48). -/
def Bus.emptied (b : Bus) : Bus := { b with slot := none, queue := [], sending := b.detached }

/-- The Station Bus Controller after ARM (R48). What is on the line goes on (R31, R34). -/
def Bus.armed (b : Bus) : Bus :=
  { Bus.initial with heardIdle := b.heardIdle, sending := b.detached, aborted := b.aborted }

/-- The Sensor Input Port after ARM (R66): the receiver goes on. -/
def Sensor.armed (x : Sensor) : Sensor := { latest := none, age := some 0, receiver := x.receiver, frameErrors := 0 }

/-- The Alert Controller after ARM: edges cleared, in-service set emptied (R180). -/
def Alert.armed (a : Alert) : Alert := { a with edges := 0, inService := 0 }

/-- ARM taken: every block applies its ARM column, and the station is JOINING (R191; R7, R26, R48, R66, R88, R124, R153,
R165, R180). -/
def State.armStation (s : State) : State :=
  { s with
    odo := s.odo.restarted, pacer := Pacer.initial, bus := s.bus.armed, sensor := s.sensor.armed,
    window := Window.initial, results := Results.initial, ring := [], tracker := Tracker.initial,
    marker := Marker.initial, alert := s.alert.armed, control := { s.control with station := .joining } }

/-- The tracker with every open run closed FORCED (R140), and what the closes changed beside it. -/
def State.forcedTracks (s : State) : Tracks :=
  forceRuns s.trackEnv { tracker := s.tracker, marker := s.marker, alert := s.alert }

/-- What DISARM and RESYNC have in common: runs close FORCED, rows are discarded, marker queue, slot and sample queue
are emptied, valves close, the current post is none and A is 0 (R192, R193; R7, R26, R48, R87, R140, R165). -/
def State.leaveRun (s : State) (station : StationState) : State :=
  { s with
    odo := s.odo.restarted
    pacer := { s.pacer with currentPost := none }
    bus := s.bus.emptied
    window := { s.window with rows := [] }
    tracker := s.forcedTracks.tracker
    marker := s.forcedTracks.marker.emptied
    alert := s.forcedTracks.alert
    control := { s.control with station } }

/-- ARM is taken in CONFIGURED (R191). -/
def answerArm (s : State) : Reply × State :=
  if s.control.station = .configured then (bare .ok, s.armStation) else (bare .wrongState, s)

/-- DISARM is taken in JOINING and RUNNING (R192). -/
def answerDisarm (s : State) : Reply × State :=
  if s.armed then (bare .ok, s.leaveRun .configured) else (bare .wrongState, s)

/-- RESYNC is taken in JOINING and RUNNING; it also empties the History Ring (R193, R124). -/
def answerResync (s : State) : Reply × State :=
  if s.armed then (bare .ok, { s.leaveRun .joining with ring := [] }) else (bare .wrongState, s)

/-- ARM (R191). -/
def execArm (s : State) : Host.Outcome State Fault Refusal :=
  .next (s.powered (clockIn 17 [] false fun _ => gated false answerArm))

/-- DISARM (R192). -/
def execDisarm (s : State) : Host.Outcome State Fault Refusal :=
  .next (s.powered (clockIn 18 [] false fun _ => gated false answerDisarm))

/-- RESYNC (R193). -/
def execResync (s : State) : Host.Outcome State Fault Refusal :=
  .next (s.powered (clockIn 19 [] false fun _ => gated false answerResync))

/-! ### Unknown commands -/

/-- An unknown command byte is answered BAD_COMMAND in every station state (R197). -/
def answerUnknown (s : State) : Reply × State := (bare .badCommand, s)

/-- UNKNOWN_COMMAND (R197). A byte that R198 lists is no unknown command: nothing is taken (assumption log 6). -/
def execUnknownCommand (code : Byte) (s : State) : Host.Outcome State Fault Refusal :=
  .next (s.powered fun s => if namesCommand code then s else clockIn code [] false (fun _ => answerUnknown) s)

end Sys2Proof.Machine
end

