-- ==== Sys2Proof/Machine/DistanceEvents.lean ====
section
/-! DEFINITION. TACH_EDGE and BOTH_LINES_CHANGED (R1 to R4, R10). -/

namespace Sys2Proof.Machine

/-- The direction of a tach edge with normal sense, true for forward: the table of R1, by the levels of TACA and TACB
before the edge and the line that changes. -/
def forwardNormal (tacA tacB : Bool) (line : TachLine) : Bool :=
  match tacA, tacB, line with
  | false, false, .tacA => true
  | true, false, .tacB => true
  | true, true, .tacA => true
  | false, true, .tacB => true
  | true, false, .tacA => false
  | true, true, .tacB => false
  | false, true, .tacA => false
  | false, false, .tacB => false

/-- The edge is forward under the configured direction sense (R1). -/
def State.forward (line : TachLine) (s : State) : Bool :=
  forwardNormal s.odo.tacA s.odo.tacB line != s.cfg.inverted

/-- A after a tach edge: changed by e and clamped while JOINING or RUNNING, unchanged otherwise (R2). -/
def State.accAfterEdge (line : TachLine) (s : State) : Int :=
  if s.armed then
    clampAcc (if s.forward line then s.odo.acc + s.cfg.edgeDistance else s.odo.acc - s.cfg.edgeDistance)
  else s.odo.acc

/-- The Odometry Unit after a tach edge: kept levels, A, edge age and tach-fault flag (R1 to R4). -/
def State.odoAfterEdge (line : TachLine) (s : State) : Odometry :=
  { s.odo with
    tacA := if line = .tacA then !s.odo.tacA else s.odo.tacA
    tacB := if line = .tacB then !s.odo.tacB else s.odo.tacB
    acc := s.accAfterEdge line, edgeAge := some 0, tachFault := false }

/-- TACH_EDGE (R1): the edge is taken, then the conditions of a mark request are tested (R10). -/
def execTachEdge (line : TachLine) (s : State) : Host.Outcome State Fault Refusal :=
  .next (s.powered fun s => { s with odo := s.odoAfterEdge line }.testRequest)

/-- BOTH_LINES_CHANGED (R1): no edge; the new levels replace the kept pair. -/
def execBothLinesChanged (s : State) : Host.Outcome State Fault Refusal :=
  .next (s.powered fun s => { s with odo := { s.odo with tacA := !s.odo.tacA, tacB := !s.odo.tacB } })

end Sys2Proof.Machine
end

