-- ==== Sys2Proof/Machine/MarkerEvents.lean ====
section
/-! DEFINITION. VALVE_EXPIRY (R160, R161). -/

namespace Sys2Proof.Machine

/-- VALVE_EXPIRY: time passes up to the moment at which the valve's remaining time is 0, and it closes (R160;
assumption log 2). A CLOSED valve has nothing to expire. -/
def execValveExpiry (x : Nozzle) (s : State) : Host.Outcome State Fault Refusal :=
  .next (s.powered fun s => s.elapse (s.marker.valve x).remaining)

end Sys2Proof.Machine
end

