-- ==== Sys2Proof/Machine/ResetEvents.lean ====
section
/-! DEFINITION. POWER_ON_RESET, RESETN_RELEASE and SELF_TEST_END (R181, R182). -/

namespace Sys2Proof.Machine

/-- The control block while RESETN is held low: configuration, lock, self-test result and refusal cause are cleared;
the station state follows at the release (R181). -/
def Control.cleared (c : Control) : Control :=
  { c with selfTest := 0, block := none, config := none, lock := false, refusal := .none }

/-- RESETN is taken low: transactions and the frame being sent or driven out stop, valves close, the configuration is cleared
(R181, R164). The other blocks take their power-on state at the release. -/
def State.holdReset (s : State) : State :=
  { s with resetn := false, port := Port.initial, bus := { s.bus with sending := none, aborted := none },
           marker := { s.marker with left := .closed, right := .closed }, control := s.control.cleared }

/-- Every block takes its power-on state (R181; R7, R26, R47, R66, R88, R108, R124, R153, R165, R180, R202). The timer
runs on and the model's own fields stay. A select that is on at that moment carries no transaction (R195). -/
def State.powerOn (tacA tacB selected : Bool) (s : State) : State :=
  { s with
    resetn := true, odo := Odometry.initial tacA tacB, pacer := Pacer.initial, bus := Bus.initial,
    sensor := Sensor.initial, window := Window.initial, results := Results.initial, ring := [],
    tracker := Tracker.initial, marker := Marker.initial, alert := Alert.initial, control := Control.initial,
    port := { Port.initial with selected } }

/-- The five tested memories are left empty (R182, R125). -/
def State.emptyMemories (s : State) : State :=
  { s with window := { s.window with rows := [] }, results := { s.results with fifo := [] }, ring := [],
           tracker := { s.tracker with queue := [] }, marker := { s.marker with queue := [] } }

/-- SELF_TEST ends with the given result (R182); the sensor receiver waits for an idle gap (R52). -/
def State.endSelfTest (failed : BitVec 5) (s : State) : State :=
  { s.emptyMemories with
    sensor := { s.sensor with receiver := .waiting }
    control := { s.control with selfTest := failed, station := if failed = 0 then .unconfigured else .fault } }

/-- POWER_ON_RESET (R181). -/
def execPowerOnReset (s : State) : Host.Outcome State Fault Refusal := .next s.holdReset

/-- RESETN_RELEASE (R181): ends the power-on reset that lasts; with RESETN already high nothing is released
(assumption log 13). -/
def execResetnRelease (levels : TachLevels) (selected : Bool) (s : State) : Host.Outcome State Fault Refusal :=
  .next (if s.resetn then s else s.powerOn levels.tacA levels.tacB selected)

/-- SELF_TEST_END (R182). -/
def execSelfTestEnd (failed : BitVec 5) (s : State) : Host.Outcome State Fault Refusal :=
  .next (s.powered fun s => if s.control.station = .selfTest then s.endSelfTest failed else s)

end Sys2Proof.Machine
end

