-- ==== Sys2Proof/Machine/SensorEvents.lean ====
section
/-! DEFINITION. BURST_END and STALE (R49 to R55). -/

namespace Sys2Proof.Machine

/-- The burst is a good frame: 13 bytes, every stop bit high, header 166, sum 0 modulo 256 (R50). -/
def goodBurst (bytes : List RxByte) : Bool :=
  bytes.length == 13 && bytes.all RxByte.stopHigh && (bytes.map RxByte.data).head? == some 166 &&
    (bytes.map fun x => x.data.toNat).sum % 256 == 0

/-- The set a good frame brings, arriving at `time` (R50, R53). -/
def frameSet (bytes : List RxByte) (time : Nat) : SensorSet :=
  let data := bytes.map RxByte.data
  let flags := data.getD 11 0
  { raw := { gL := s16At data 1, gR := s16At data 3, zL := s16At data 5, zR := s16At data 7, rho := s16At data 9 }
    overRange := { gL := flags.getLsbD 0, gR := flags.getLsbD 1, zL := flags.getLsbD 2, zR := flags.getLsbD 3,
                   rho := flags.getLsbD 4 }
    arrival := time }

/-- The burst is judged: a good frame replaces the latest set and restarts the age (R53), any other is counted (R51). -/
def Sensor.judge (bytes : List RxByte) (time : Nat) (x : Sensor) : Sensor :=
  if goodBurst bytes then { x with latest := some (frameSet bytes time), age := some 0 }
  else { x with frameErrors := addSat16 x.frameErrors 1 }

/-- Bursts are judged one after the other, each as a whole (R49). -/
def Sensor.judgeAll (bursts : List (List RxByte)) (time : Nat) (x : Sensor) : Sensor :=
  bursts.foldl (fun x bytes => x.judge bytes time) x

/-- The receiver when SDATA has gone through the given levels: nothing in SELF_TEST; after it, what comes before the first
complete idle gap is no burst and is not counted, and every burst that ends after that gap is judged, among them one in
the same levels (R49, R52; assumption log 11). -/
def Sensor.gap (levels : List Bool) (gapBefore : Bool) (time : Nat) (x : Sensor) : Sensor :=
  match x.receiver with
  | .off => x
  | .waiting =>
    match if gapBefore then some levels else afterIdleGap 0 levels with
    | none => x
    | some rest => { x with receiver := .receiving }.judgeAll (sdataBursts rest) time
  | .receiving => x.judgeAll (sdataBursts levels) time

/-- BURST_END: the receiver forms bytes from the levels of SDATA, groups them into bursts and judges what has ended (R49
to R53). -/
def execBurstEnd (levels : List Bool) (gapBefore : Bool) (s : State) : Host.Outcome State Fault Refusal :=
  .next (s.powered fun s => { s with sensor := s.sensor.gap levels gapBefore s.timer })

/-- The µs until the sensor age passes the stale limit; 0 when it has passed it, or there is no age. -/
def State.untilStale (s : State) : Nat :=
  match s.sensor.age with
  | none => 0
  | some age => s.staleLimit + 1 - age

/-- STALE (R55): while JOINING or RUNNING, time passes up to the moment at which the sensor age exceeds the stale
limit (assumption log 2); the STALE condition then holds. -/
def execStale (s : State) : Host.Outcome State Fault Refusal :=
  .next (s.powered fun s => if s.armed then s.elapse s.untilStale else s)

end Sys2Proof.Machine
end

