-- ==== Sys2Proof/Machine/StoreCommands.lean ====
section
/-! DEFINITION. Taking results and runs, reading the history, and the progress and end of a transaction (spec/06,
spec/07, spec/11). -/

namespace Sys2Proof.Machine

/-! ### TAKE_RESULTS and TAKE_RUNS -/

/-- TAKE_RESULTS with an answer: the count byte and the oldest records, in their wire form (R118). -/
def answerTakeResults (n : Byte) (s : State) : Reply × State :=
  let c := min (countParam n) s.results.fifo.length
  if s.results.fifo.isEmpty then (bare .empty, s)
  else ({ status := .ok, data := u8 c :: (s.results.fifo.take c).flatMap (recordBytes s.cfg.station),
          shifting := .records c }, s)

/-- TAKE_RESULTS (R118). -/
def execTakeResults (params : List Byte) (s : State) : Host.Outcome State Fault Refusal :=
  .next (s.powered (clockIn 32 params false fun p => gated false (answerTakeResults (firstParam p))))

/-- TAKE_RUNS with an answer: the count byte and the oldest runs, held until the transaction ends (R148, R150). -/
def answerTakeRuns (n : Byte) (s : State) : Reply × State :=
  let c := min (countParam n) s.tracker.queue.length
  if s.tracker.queue.isEmpty then (bare .empty, s)
  else ({ status := .ok, data := u8 c :: (s.tracker.queue.take c).flatMap (runBytes s.cfg.station),
          shifting := .runs c }, s)

/-- TAKE_RUNS (R148). -/
def execTakeRuns (params : List Byte) (s : State) : Host.Outcome State Fault Refusal :=
  .next (s.powered (clockIn 33 params false fun p => gated false (answerTakeRuns (firstParam p))))

/-- Transaction `t` goes on with `shifted` bytes of its response shifted out and `shifting` left. -/
def State.setShifting (t : Transaction) (shifted : Nat) (shifting : Shifting) (s : State) : State :=
  s.withTransaction { t with shifted, shifting }

/-- The last byte of a record has been shifted out: it leaves the head of the FIFO (R119). All bytes before those of the
records left are out. -/
def State.recordOut (s : State) : State :=
  match s.port.transaction with
  | some t =>
    match t.shifting with
    | .records (left + 1) =>
      { s with results := { s.results with fifo := s.results.fifo.drop 1 } }.setShifting t
        (t.response.length - 40 * left) (.records left)
    | _ => s
  | none => s

/-- RECORD_SHIFTED_OUT (R119). -/
def execRecordShiftedOut (s : State) : Host.Outcome State Fault Refusal := .next (s.powered State.recordOut)

/-- The last byte of a run has been shifted out: it leaves the head of the Run Queue (R149). All bytes before those of the
runs left are out. -/
def State.runOut (s : State) : State :=
  match s.port.transaction with
  | some t =>
    match t.shifting with
    | .runs (left + 1) =>
      { s with tracker := { s.tracker with queue := s.tracker.queue.drop 1 } }.setShifting t
        (t.response.length - 28 * left) (.runs left)
    | _ => s
  | none => s

/-- RUN_SHIFTED_OUT (R149). -/
def execRunShiftedOut (s : State) : Host.Outcome State Fault Refusal := .next (s.powered State.runOut)

/-! ### The history window -/

/-- The window HISTORY_WINDOW opens: a start greater than the end covers that one post (R201). -/
def openedWindow (first last : Int) : HistoryWindow := { first, last := max first last, cursor := first }

/-- HISTORY_WINDOW opens a window in JOINING and RUNNING (R201). -/
def answerHistoryWindow (first last : Int) (s : State) : Reply × State :=
  if s.armed then (bare .ok, { s with port := { s.port with window := some (openedWindow first last) } })
  else (bare .wrongState, s)

/-- HISTORY_WINDOW (R201): start first, then end, each high byte first (assumption log 27). It replaces the window instead
of cancelling it (R202). -/
def execHistoryWindow (first last : List Byte) (s : State) : Host.Outcome State Fault Refusal :=
  .next (s.powered (clockIn 64 (first ++ last) true fun p =>
    gated false (answerHistoryWindow (trackPostParam p 0) (trackPostParam p 4))))

/-- HISTORY_READ by the window and its cursor (R203). -/
def answerHistoryRead (n : Byte) (s : State) : Reply × State :=
  match s.port.window with
  | none => (bare .wrongState, s)
  | some w =>
    if w.last < w.cursor then (bare .ended, s)
    else
      let c := min (countParam n) (w.last - w.cursor + 1).toNat
      ({ status := .ok, data := [u8 c], shifting := .entries c false }, s)

/-- HISTORY_READ (R203). -/
def execHistoryRead (params : List Byte) (s : State) : Host.Outcome State Fault Refusal :=
  .next (s.powered (clockIn 65 params true fun p => gated false (answerHistoryRead (firstParam p))))

/-- The bytes of the entry for track post `t`, as the ring holds it now: kind byte 1 and the record, or kind byte 2 and
the track post (R203). That the track post of a GONE entry has its high byte first is the model's reading
(assumption log 27). -/
def entryBytes (s : State) (t : Int) : List Byte :=
  match trackLookup s.ring t with
  | some g => 1 :: recordBytes s.cfg.station g
  | none => 2 :: s32 t

/-- The kind byte of the next entry begins: the cursor's post is looked up and the entry's bytes are fixed (R203). -/
def State.lookUpEntry (s : State) : State :=
  match s.port.transaction, s.port.window with
  | some t, some w =>
    match t.shifting with
    | .entries (left + 1) false =>
      s.setShifting { t with response := t.response ++ entryBytes s w.cursor } t.response.length
        (.entries (left + 1) true)
    | _ => s
  | _, _ => s

/-- HISTORY_ENTRY_LOOKUP (R123, R203). -/
def execHistoryEntryLookup (s : State) : Host.Outcome State Fault Refusal := .next (s.powered State.lookUpEntry)

/-- The last byte of the entry has been shifted out: the cursor moves to the next track post (R203). -/
def State.entryOut (s : State) : State :=
  match s.port.transaction, s.port.window with
  | some t, some w =>
    match t.shifting with
    | .entries (left + 1) true =>
      { s with port := { s.port with window := some { w with cursor := w.cursor + 1 } } }.setShifting t
        t.response.length (.entries left false)
    | _ => s
  | _, _ => s

/-- HISTORY_ENTRY_SHIFTED_OUT (R203, R204). -/
def execHistoryEntryShiftedOut (s : State) : Host.Outcome State Fault Refusal := .next (s.powered State.entryOut)

/-! ### The end of a transaction -/

/-- DESELECT (R195): the transaction ends; what it has removed stays removed, and held runs are released (R119, R149,
R150). -/
def execDeselect (s : State) : Host.Outcome State Fault Refusal := .next (s.powered State.endTransaction)

end Sys2Proof.Machine
end

