-- ==== Sys2Proof/Machine/Dispatch.lean ====
section
/-! DEFINITION. The meaning of each command: one arm per row of spec/opcode_table.json. -/

namespace Sys2Proof.Machine

/-- The effect of a command on everything but the queue. -/
def exec (i : Instr) (s : State) : Host.Outcome State Fault Refusal :=
  match i with
  | .powerOnReset => Sys2Proof.Machine.execPowerOnReset s
  | .resetnRelease levels selected => Sys2Proof.Machine.execResetnRelease levels selected s
  | .selfTestEnd failed => Sys2Proof.Machine.execSelfTestEnd failed s
  | .tachEdge line => Sys2Proof.Machine.execTachEdge line s
  | .burstEnd levels gapBefore => Sys2Proof.Machine.execBurstEnd levels gapBefore s
  | .stale => Sys2Proof.Machine.execStale s
  | .busIdleGap => Sys2Proof.Machine.execBusIdleGap s
  | .arbitrationLost bit => Sys2Proof.Machine.execArbitrationLost bit s
  | .transmitError bit => Sys2Proof.Machine.execTransmitError bit s
  | .ownMarkCompletion => Sys2Proof.Machine.execOwnMarkCompletion s
  | .ownSampleSent => Sys2Proof.Machine.execOwnSampleSent s
  | .markFrame frame => Sys2Proof.Machine.execMarkFrame frame s
  | .sampleFrame frame => Sys2Proof.Machine.execSampleFrame frame s
  | .valveExpiry nozzle => Sys2Proof.Machine.execValveExpiry nozzle s
  | .identify => Sys2Proof.Machine.execIdentify s
  | .readStatus => Sys2Proof.Machine.execReadStatus s
  | .loadConfig block => Sys2Proof.Machine.execLoadConfig block s
  | .arm => Sys2Proof.Machine.execArm s
  | .disarm => Sys2Proof.Machine.execDisarm s
  | .resync => Sys2Proof.Machine.execResync s
  | .takeResults params => Sys2Proof.Machine.execTakeResults params s
  | .recordShiftedOut => Sys2Proof.Machine.execRecordShiftedOut s
  | .takeRuns params => Sys2Proof.Machine.execTakeRuns params s
  | .runShiftedOut => Sys2Proof.Machine.execRunShiftedOut s
  | .acknowledge => Sys2Proof.Machine.execAcknowledge s
  | .endService params => Sys2Proof.Machine.execEndService params s
  | .setMask params => Sys2Proof.Machine.execSetMask params s
  | .setModes params => Sys2Proof.Machine.execSetModes params s
  | .clearPending params => Sys2Proof.Machine.execClearPending params s
  | .historyWindow first last => Sys2Proof.Machine.execHistoryWindow first last s
  | .historyRead params => Sys2Proof.Machine.execHistoryRead params s
  | .historyEntryLookup => Sys2Proof.Machine.execHistoryEntryLookup s
  | .historyEntryShiftedOut => Sys2Proof.Machine.execHistoryEntryShiftedOut s
  | .unknownCommand code => Sys2Proof.Machine.execUnknownCommand code s
  | .deselect => Sys2Proof.Machine.execDeselect s
  | .bothLinesChanged => Sys2Proof.Machine.execBothLinesChanged s

end Sys2Proof.Machine
end

