-- ==== Sys2Proof/WellFormed.lean ====
section
/-! DEFINITION. Which terms of `Instr` are commands: the checks an operand must pass. -/

namespace Sys2Proof

/-- The levels are those of one burst: a start bit first, and at their end, not before, the burst's idle gap completes
(R49). -/
def oneBurst (levels : List Bool) : Bool :=
  levels.head? == some false && (sdataBursts levels).length == 1 && (sdataBursts levels.dropLast).isEmpty

/-- The levels are those of a line on which the first idle gap completes, alone or with the burst after it (R49, R52). -/
def firstGap (levels : List Bool) : Bool :=
  match afterIdleGap 0 levels with
  | none => false
  | some rest => rest.isEmpty || oneBurst (rest.dropWhile id)

/-- A term of `Instr` whose operands the row admits: a recorder command carries as many parameter bytes as R198 gives it
(HISTORY_WINDOW four for each of its track posts, R201),
the levels of BURST_END are those of one burst, or
of the first idle gap and at most one burst when no gap lay before them (R49, R52), the bit at which arbitration is lost is a key bit (R29), the bit of a transmit error is a bit that is compared (R30, R31;
the longest frame has bits 0 to 134), and an unknown command's byte is one R198 does not list (R197). -/
def WellFormed : Instr → Bool
  | .loadConfig block => block.length == paramCount 16
  | .takeResults params => params.length == paramCount 32
  | .takeRuns params => params.length == paramCount 33
  | .endService params => params.length == paramCount 49
  | .setMask params => params.length == paramCount 50
  | .setModes params => params.length == paramCount 51
  | .clearPending params => params.length == paramCount 52
  | .historyWindow first last => first.length == 4 && last.length == 4
  | .historyRead params => params.length == paramCount 65
  | .burstEnd levels gapBefore => if gapBefore then oneBurst levels else firstGap levels
  | .arbitrationLost bit => decide (1 ≤ bit) && decide (bit ≤ 4)
  | .transmitError bit => decide (1 ≤ bit) && decide (bit ≤ 134)
  | .unknownCommand code => !namesCommand code
  | .powerOnReset | .resetnRelease _ _ | .selfTestEnd _ | .tachEdge _ | .stale | .busIdleGap
  | .ownMarkCompletion | .ownSampleSent | .markFrame _ | .sampleFrame _ | .valveExpiry _
  | .identify | .readStatus | .arm | .disarm | .resync | .recordShiftedOut | .runShiftedOut | .acknowledge
  | .historyEntryLookup | .historyEntryShiftedOut | .deselect | .bothLinesChanged => true

end Sys2Proof
end

