-- ==== Sys2Proof/Safety.lean ====
section
/-! DEFINITION. What claims are stated in: the invariant of the station, block by block, and the readings of bytes and
answers that statements use. -/

namespace Sys2Proof.Machine

/-! ### Readings -/

/-- The unsigned number that bytes give, high byte first (R112). -/
def beNat (bytes : List Byte) : Nat := bytes.foldl (fun n b => 256 * n + b.toNat) 0

/-- Bytes `i` to `i + n - 1` of a sequence, as an unsigned number. -/
def fieldAt (bytes : List Byte) (i n : Nat) : Nat := beNat ((bytes.drop i).take n)

/-- Bytes `i` to `i + n - 1` of a sequence, as a number in two's complement. -/
def signedAt (bytes : List Byte) (i n : Nat) : Int := (BitVec.ofNat (8 * n) (fieldAt bytes i n)).toInt

/-- The station takes transactions: RESETN is high (R181), and RSEL has not been low since before RESETN rose (R195). -/
def State.takesTransactions (s : State) : Prop :=
  s.resetn = true ∧ (s.port.selected = true → s.port.transaction.isSome = true)

/-- A command has been taken whole and its answer begins: the bytes received, the response with its status byte, what
is still to be shifted out, and the history window after it (R196, R202). -/
def State.answering (s : State) (received response : List Byte) (shifting : Shifting) (window : Option HistoryWindow) :
    State :=
  { s with port := { selected := true, transaction := some { received, response, shifted := 0, shifting }, window } }

/-- The history window a command of R198 leaves before its own effect: HISTORY_WINDOW and HISTORY_READ keep it (R202). -/
def windowKept (c : Instr) (w : Option HistoryWindow) : Option HistoryWindow :=
  match c with
  | .historyWindow _ _ | .historyRead _ => w
  | _ => none

/-- A displacement value lies within the range of a displacement count (spec/00_scope.md, Units). -/
def Value.inRange (v : Value) : Prop := -32768 ≤ v.dc ∧ v.dc ≤ 32767

/-- An optional value is absent or in range. -/
def optInRange (v : Option Value) : Prop := ∀ x, v = some x → x.inRange

/-- The four values of a sample are absent or in range. -/
def Sample.inRange (x : Sample) : Prop :=
  optInRange x.yA ∧ optInRange x.zL ∧ optInRange x.zR ∧ optInRange x.cant

/-- The sixteen-bit event counters of the station, each saturating (spec/00_scope.md, Clamping and saturation; R25, R45,
R64, R85, R116, R151, R162). -/
def State.counters (s : State) : List Nat :=
  [s.pacer.markConflict, s.bus.crcErrors, s.bus.samplesShed, s.bus.duplicateStations, s.sensor.frameErrors,
    s.window.duplicateSamples, s.results.lost, s.tracker.spikes, s.tracker.runsLost, s.marker.missed] ++
    s.window.late.toList ++ s.window.missed.toList

/-! ### The invariant -/

/-- The stores keep within their sizes (R32, R37, R113, R115, R121, R146, R157). -/
structure State.StoresOk (s : State) : Prop where
  txErrors : s.bus.txErrors ≤ 32
  samples : s.bus.queue.length ≤ 4
  fifo : s.results.fifo.length ≤ 64
  tally : s.results.tally ≤ 255
  ring : s.ring.length ≤ 512
  runs : s.tracker.queue.length ≤ 32
  actions : s.marker.queue.length ≤ 16

/-- The lock and the configuration go with the station state, what is in force was accepted (R187, R190), and the sensor
receiver takes in nothing exactly in SELF_TEST (R52, R66). -/
structure State.ControlOk (s : State) : Prop where
  lock : s.control.lock = true ↔
    s.control.station = .configured ∨ s.control.station = .joining ∨ s.control.station = .running
  block : s.control.lock = s.control.block.isSome
  config : s.control.config = s.control.block.map effective
  judged : ∀ b, s.control.block = some b → b.length = 183 ∧ judgeBlock b = .none
  fault : s.control.station = .fault ↔ s.control.selfTest ≠ 0
  refusal : s.control.lock = true → s.control.refusal = .none
  receiver : s.sensor.receiver = .off ↔ s.control.station = .selfTest

/-- The current post goes with RUNNING, and A keeps its range and is 0 while pacing is inactive (R2, R8). -/
structure State.PacingOk (s : State) : Prop where
  acc : -16320000 ≤ s.odo.acc ∧ s.odo.acc ≤ 256000
  idle : s.armed = false → s.odo.acc = 0
  running : s.pacer.currentPost.isSome = true ↔ s.control.station = .running
  post : ∀ n, s.pacer.currentPost = some n → 1 ≤ n ∧ n ≤ maxPost

/-- The bus mode goes with the error counter, the slot carries the next index, the queue holds samples younger than W
posts in post order, a frame in progress is the one the slot or the queue's head holds, and while an aborted frame is
driven out none is being sent (R12, R31, R32, R33, R37, R38). -/
structure State.BusOk (s : State) : Prop where
  mode : s.bus.mode = .listenOnly ↔ s.bus.txErrors = 32
  silent : s.bus.mode = .listenOnly → s.bus.slot = none ∧ s.bus.queue = [] ∧ s.bus.sending = none
  slot : ∀ k, s.bus.slot = some k → s.armed = true ∧ k = s.post + 1 ∧ k ≤ maxPost
  young : ∀ q ∈ s.bus.queue, 1 ≤ q.post ∧ q.post ≤ s.post ∧ s.post < q.post + s.cfg.depth
  ascending : s.bus.queue.Pairwise fun p q => p.post < q.post
  mark : ∀ f, s.bus.sending = some { frame := .mark f, owned := true } →
    ∃ k, s.bus.slot = some k ∧ f = ownMark s.cfg.station k
  sample : ∀ f, s.bus.sending = some { frame := .sample f, owned := true } →
    ∃ q, s.bus.queue.head? = some q ∧ f = ownSample s.cfg.station q
  aborted : ∀ a, s.bus.aborted = some a →
    s.bus.sending = none ∧ 1 ≤ a.bit ∧ a.bit < (frameBits a.frame).length

/-- The window holds at most W rows in ascending order, all within W posts of the current post; a row is READY exactly
when its needed set is present, and the oldest row is OPEN (R67 to R71, R75, R80). -/
structure State.WindowOk (s : State) : Prop where
  size : s.window.rows.length ≤ s.cfg.depth
  ascending : s.window.rows.Pairwise fun x y => x.post < y.post
  range : ∀ r ∈ s.window.rows, 1 ≤ r.post ∧ r.post ≤ s.post ∧ s.post < r.post + s.cfg.depth
  ready : ∀ r ∈ s.window.rows, r.state = .ready ↔ needsMet s.cfg r = true
  oldest : ∀ r, s.window.rows.head? = some r → r.state = .opened
  origin : ∀ r ∈ s.window.rows, (r.origin = .latched ↔ (r.slots[s.cfg.station]).isSome = true)
  silentSpeed : ∀ r ∈ s.window.rows, r.origin = .noOwnLatch → r.speed = none
  skipped : ∀ r ∈ s.window.rows, r.skippedBefore ≤ 65535

/-- The ring holds records of strictly rising car posts, tied to track posts by the car offset, older than every row of
the window, with lost-before 0 (R93, R110, R121, R123). -/
structure State.RingOk (s : State) : Prop where
  ascending : s.ring.Pairwise fun x y => x.carPost < y.carPost
  fields : ∀ g ∈ s.ring, 1 ≤ g.carPost ∧ g.trackPost = (g.carPost : Int) - s.cfg.carOffset ∧ g.lostBefore = 0
  older : s.armed = true → ∀ g ∈ s.ring, g.carPost ≤ s.post ∧ ∀ r ∈ s.window.rows, g.carPost < r.post
  empty : s.control.lock = false → s.ring = []

/-- The marker queue is in its order without repeats, every action lies ahead of the current post for a fitted nozzle,
and outside JOINING and RUNNING nothing is queued and both valves are CLOSED (R155, R157, R159, R164). -/
structure State.MarkerOk (s : State) : Prop where
  ordered : s.marker.queue.Pairwise fun a b => actionBefore a b = true
  ahead : ∀ a ∈ s.marker.queue, s.post < a.due ∧ a.due ≤ maxPost ∧ (s.cfg.nozzle a.nozzle).isSome = true
  inactive : s.armed = false → s.marker.queue = [] ∧ s.marker.left = .closed ∧ s.marker.right = .closed
  remaining : s.marker.left ≠ .opened 0 ∧ s.marker.right ≠ .opened 0

/-- An open run keeps the bounds of R131 for a measure of gap tolerance `g`. -/
structure OpenRun.Ok (g : Nat) (r : OpenRun) : Prop where
  cls : 1 ≤ r.cls ∧ r.cls ≤ 3
  peak : 1 ≤ r.peak ∧ r.peak ≤ 65535
  posts : r.start ≤ r.peakPost ∧ r.peakPost ≤ r.last
  length : r.last - r.start + 1 < 4096
  gap : r.gap ≤ g

/-- A run record keeps the bounds of R137 and R144. -/
structure RunRecord.Ok (r : RunRecord) : Prop where
  measure : 1 ≤ r.measure ∧ r.measure ≤ 8
  cls : 1 ≤ r.cls ∧ r.cls ≤ 3
  peak : 1 ≤ r.peak ∧ r.peak ≤ 65535
  posts : r.start ≤ r.peakPost ∧ r.peakPost ≤ r.last
  length : (r.length : Int) = r.last - r.start + 1 ∧ 1 ≤ r.length ∧ r.length ≤ 4096

/-- Only configured measures have open runs, and only while JOINING or RUNNING; open runs lie behind every row still to
be evaluated; runs keep their bounds (R131, R136, R137, R140). -/
structure State.TrackerOk (s : State) : Prop where
  configured : ∀ (i : Fin 8) r, s.tracker.runs[i] = some r → ∃ m, s.cfg.measures[i.val]? = some m ∧ r.Ok m.g
  behind : ∀ (i : Fin 8) r, s.tracker.runs[i] = some r →
    r.last ≤ (s.post : Int) - s.cfg.carOffset ∧ ∀ row ∈ s.window.rows, r.last < (row.post : Int) - s.cfg.carOffset
  inactive : s.armed = false → ∀ i : Fin 8, s.tracker.runs[i] = none
  records : ∀ r ∈ s.tracker.queue, r.Ok

/-- A transaction goes on only while RSEL is low and has shifted out no more than its response holds; the history window
keeps its cursor within it and does not outlive the run, and a transaction has no more to shift out than the stores hold
(R118, R148, R150, R195, R201 to R203). -/
structure State.PortOk (s : State) : Prop where
  selected : s.port.transaction.isSome = true → s.port.selected = true
  shifted : ∀ t, s.port.transaction = some t → t.shifted ≤ t.response.length
  window : ∀ w, s.port.window = some w → s.armed = true ∧ w.first ≤ w.cursor ∧ w.cursor ≤ w.last + 1
  records : ∀ t n, s.port.transaction = some t → t.shifting = .records n → n ≤ 8 ∧ n ≤ s.results.fifo.length
  runs : ∀ t n, s.port.transaction = some t → t.shifting = .runs n → n ≤ 8 ∧ n ≤ s.tracker.queue.length
  entries : ∀ t n b, s.port.transaction = some t → t.shifting = .entries n b →
    n ≤ 8 ∧ ∃ w, s.port.window = some w ∧ w.cursor + n ≤ w.last + 1
  testing : ∀ t, s.control.station = .selfTest → s.port.transaction = some t → t.shifting = .plain

/-- Every displacement value the station holds lies within the range of a displacement count (R50, R105). -/
structure State.ValuesOk (s : State) : Prop where
  raw : ∀ x, s.sensor.latest = some x → ∀ v ∈ [x.raw.gL, x.raw.gR, x.raw.zL, x.raw.zR, x.raw.rho],
    (-32768 : Int) ≤ v ∧ v ≤ 32767
  queue : ∀ q ∈ s.bus.queue, q.sample.inRange
  rows : ∀ r ∈ s.window.rows, ∀ (i : Fin 8) x, r.slots[i] = some x → x.sample.inRange ∧ optInRange x.gdev
  records : ∀ g ∈ s.results.fifo ++ s.ring, optInRange g.gdev ∧ optInRange g.cant ∧
    (∀ i : Fin 4, optInRange g.chords[i]) ∧ ∀ j : Fin 2, optInRange g.twists[j]

/-- The event counters are sixteen bits wide. -/
def State.CountersOk (s : State) : Prop := ∀ n ∈ s.counters, n ≤ 65535

/-- The invariant of a station whose RESETN is high. While it is low only the sizes of the stores and the counters are
kept in view: the other blocks take their power-on state at the release (R181). -/
structure State.Inv (s : State) : Prop where
  stores : s.StoresOk
  counters : s.CountersOk
  values : s.ValuesOk
  control : s.resetn = true → s.ControlOk
  pacing : s.resetn = true → s.PacingOk
  bus : s.resetn = true → s.BusOk
  window : s.resetn = true → s.WindowOk
  ring : s.resetn = true → s.RingOk
  marker : s.resetn = true → s.MarkerOk
  tracker : s.resetn = true → s.TrackerOk
  port : s.resetn = true → s.PortOk

end Sys2Proof.Machine
end

