-- ==== Sys2Proof/Certificates/Slice0/Obligations.lean ====
section
/-! DEFINITION. The statements for the provers. Their order is that of OBLIGATIONS.json. A statement marked as resting on
the model's choice names its assumption log entry. -/

open Sys2Proof Sys2Proof.Machine

/-! ### The queue, the timer and reset -/

/-- A step takes the command at the front of the queue and runs it with the queue's rest. -/
def Obligations.StepTakesTheFrontCommand : Prop :=
  ∀ (c : Instr) (rest : List Instr) (s : State),
    step { s with pending := c :: rest } = exec c { s with pending := rest }

/-- On an empty queue a step is one tick of the 1 µs timer (the model's choice, log 1): the timer goes on by 1; the edge
age, the speed interval and the sensor age count up and stop at 4,294,967,295 (R3, R5, R54); an open valve counts down
and closes at 0 (R160); nothing else changes. -/
def Obligations.IdleStepIsOneMicrosecond : Prop :=
  ∀ s : State,
    let up : Nat → Nat := fun a => if a < 4294967295 then a + 1 else a
    let down : Valve → Valve := fun v =>
      match v with
      | .closed => .closed
      | .opened r => if r ≤ 1 then .closed else .opened (r - 1)
    step { s with pending := [] } = .next { s with
      pending := []
      timer := s.timer + 1
      odo := { s.odo with edgeAge := s.odo.edgeAge.map up
                          lastLatch := s.odo.lastLatch.map fun l => { l with interval := up l.interval } }
      sensor := { s.sensor with age := s.sensor.age.map up }
      marker := { s.marker with left := down s.marker.left, right := down s.marker.right } }

/-- Every command completes in every state, leaves the queue alone, and lets no time pass unless it is STALE or
VALVE_EXPIRY. All of this is the model's choice: time passes only in a step on an empty queue (log 1) and in those two
commands (log 2), and an event whose occasion the state does not give completes as well (log 3). -/
def Obligations.EveryCommandCompletes : Prop :=
  ∀ (c : Instr) (s : State), ∃ t, exec c s = .next t ∧ t.pending = s.pending ∧
    (c ≠ .stale → (∀ x, c ≠ .valveExpiry x) → t.timer = s.timer)

/-- POWER_ON_RESET, from any state: the transaction and the frame being sent or driven out stop, the valves close, and
configuration block, lock, self-test result and refusal cause are cleared. While RESETN is low ALERT is released, both valve
outputs are closed, nothing is driven on the bus or on RDO, and no command but the two of the reset line does anything
(R164, R181; the other blocks wait for the release, log 12;
RSEL is shown high until then, log 28). -/
def Obligations.PowerOnResetMakesSafeAndHolds : Prop :=
  ∀ s : State,
    exec .powerOnReset s = .next { s with
      resetn := false
      port := { selected := false, transaction := none, window := none }
      bus := { s.bus with sending := none, aborted := none }
      marker := { s.marker with left := .closed, right := .closed }
      control := { s.control with selfTest := 0, block := none, config := none, lock := false, refusal := .none } } ∧
    (s.resetn = false →
      (s.alertLine = false ∧ s.vlvl = false ∧ s.vlvr = false ∧ s.busBits = none ∧ ∀ k, s.rdo k = none) ∧
      ∀ c : Instr, c ≠ .powerOnReset → (∀ l d, c ≠ .resetnRelease l d) → exec c s = .next s)

/-- RESETN_RELEASE while RESETN is low: every block takes its power-on state, the kept tachometer levels are loaded from
the inputs, and the station is in SELF_TEST (R7, R26, R47, R66, R88, R124, R153, R165, R180, R181, R202); a select that
is on at that moment carries no transaction (R195, log 28); the timer runs on, and with RESETN high nothing happens (the
model's choices, log 10 and 13). SELF_TEST_END in SELF_TEST: the result is
fixed, the five tested memories are empty, the sensor receiver waits for an idle gap, and the station is UNCONFIGURED when
no memory failed, else FAULT (R52, R125, R182). -/
def Obligations.ReleaseAndSelfTestEnd : Prop :=
  (∀ (tacA tacB selected : Bool) (s : State), s.resetn = true →
    exec (.resetnRelease { tacA, tacB } selected) s = .next s) ∧
  (∀ (tacA tacB selected : Bool) (s : State), s.resetn = false → exec (.resetnRelease { tacA, tacB } selected) s = .next
    { resetn := true
      timer := s.timer
      odo := { tacA, tacB, acc := 0, edgeAge := none, tachFault := false, lastLatch := none }
      pacer := { currentPost := none, markConflict := 0 }
      bus := { mode := .active, slot := none, queue := [], txErrors := 0, duplicate := false, crcErrors := 0,
               samplesShed := 0, duplicateStations := 0, heardIdle := false, sending := none, aborted := none }
      sensor := { latest := none, age := none, receiver := .off, frameErrors := 0 }
      window := { rows := [], late := Vector.replicate 8 0, duplicateSamples := 0, missed := Vector.replicate 8 0 }
      results := { fifo := [], tally := 0, lost := 0 }
      ring := []
      tracker := { runs := Vector.replicate 8 none, sequence := 0, spikes := 0, runsLost := 0, queue := [] }
      marker := { queue := [], left := .closed, right := .closed, missed := 0 }
      alert := { edges := 0, mask := 0xFF, inService := 0, specialMask := false, autoEnd := false }
      control := { station := .selfTest, selfTest := 0, block := none, config := none, lock := false, refusal := .none }
      port := { selected, transaction := none, window := none }
      draws := s.draws
      pending := s.pending }) ∧
  ∀ (failed : BitVec 5) (s : State), s.resetn = true → s.control.station = .selfTest →
    exec (.selfTestEnd failed) s = .next { s with
      window := { s.window with rows := [] }
      results := { s.results with fifo := [] }
      ring := []
      tracker := { s.tracker with queue := [] }
      marker := { s.marker with queue := [] }
      sensor := { s.sensor with receiver := .waiting }
      control := { s.control with selfTest := failed,
                                  station := if failed = 0 then .unconfigured else .fault } }

/-! ### Distance and pacing -/

/-- TACH_EDGE: the direction is forward with normal sense exactly when TACA changes from equal levels or TACB from unequal
ones (the table of R1), turned round by the inverted sense; the edge age restarts and the tach-fault flag clears; A
changes by e and is clamped while JOINING or RUNNING, and not otherwise (R2); a mark request is placed when all conditions
of R10 hold, with index 1 in JOINING and the current post + 1 in RUNNING. BOTH_LINES_CHANGED only replaces the kept pair
(R1). Nothing else changes. -/
def Obligations.TachLinesCountAndRequest : Prop :=
  ∀ (line : TachLine) (s : State), s.resetn = true →
    let forward := ((line == .tacA) == (s.odo.tacA == s.odo.tacB)) != s.cfg.inverted
    let moved := if forward then s.odo.acc + s.cfg.edgeDistance else s.odo.acc - s.cfg.edgeDistance
    let armed := s.control.station = .joining ∨ s.control.station = .running
    let acc := if armed then max (-16320000) (min 256000 moved) else s.odo.acc
    let asks := armed ∧ 64000 ≤ acc ∧ s.bus.mode = .active ∧ s.bus.slot = none ∧
      s.pacer.currentPost ≠ some 2147483647
    let index := match s.pacer.currentPost with
      | none => 1
      | some n => n + 1
    exec (.tachEdge line) s = .next { s with
      odo := { s.odo with
        tacA := if line = .tacA then !s.odo.tacA else s.odo.tacA
        tacB := if line = .tacB then !s.odo.tacB else s.odo.tacB
        acc, edgeAge := some 0, tachFault := false }
      bus := { s.bus with slot := if asks then some index else s.bus.slot } } ∧
    exec .bothLinesChanged s = .next { s with odo := { s.odo with tacA := !s.odo.tacA, tacB := !s.odo.tacB } }

/-- The completion of an own mark with index K: the slot is empty, the error counter falls by 1, K is the current post and
the station RUNNING, one pitch leaves A; then the post advance and the latch event for K with a skipped count of 0, and
the conditions of R10 are tested again (R13, R21, R22, R32, R36). The test places a request exactly when they all hold. -/
def Obligations.OwnMarkCompletionReachesItsPost : Prop :=
  (∀ (f : MarkFrame) (s : State), s.resetn = true → s.bus.sending = some { frame := .mark f, owned := true } →
    let k := f.post.toNat
    let taken : State := { s with
      bus := { s.bus with slot := none, txErrors := s.bus.txErrors - 1, sending := none }
      odo := { s.odo with acc := max (-16320000) (min 256000 (s.odo.acc - 64000)) }
      pacer := { s.pacer with currentPost := some k }
      control := { s.control with station := .running } }
    exec .ownMarkCompletion s = .next ((taken.postAdvance k).latch k 0).testRequest) ∧
  ∀ s : State,
    let asks := (s.control.station = .joining ∨ s.control.station = .running) ∧ 64000 ≤ s.odo.acc ∧
      s.odo.tachFault = false ∧ s.bus.mode = .active ∧ s.bus.slot = none ∧ s.pacer.currentPost ≠ some 2147483647
    let index := match s.pacer.currentPost with
      | none => 1
      | some n => n + 1
    s.testRequest = { s with bus := { s.bus with slot := if asks then some index else s.bus.slot } }

/-- A good mark received while JOINING or RUNNING with an index from 1 to 2,147,483,647 above the current post (or any such
index while there is none) is adopted: a request of that index or lower is withdrawn, the tach-fault condition is tested,
A is 0, the index is the current post and the station RUNNING; then the post advance and the latch event with the skipped
count, which is 0 in JOINING and saturates at 65535 (R4, R12, R15, R16, R19, R41). -/
def Obligations.ForeignMarkAboveIsAdopted : Prop :=
  ∀ (f : MarkFrame) (s : State), s.resetn = true → s.bus.heardIdle = true → s.bus.sending = none → s.bus.aborted = none →
    markGood f = true → (s.control.station = .joining ∨ s.control.station = .running) →
    let n := f.post.toNat
    1 ≤ n → n ≤ 2147483647 → (∀ c, s.pacer.currentPost = some c → c < n) →
    let silent := match s.odo.edgeAge with
      | none => true
      | some age => decide (10000 * s.cfg.tachLossSteps < age)
    let skipped := match s.pacer.currentPost with
      | none => 0
      | some c => min 65535 (n - c - 1)
    let taken : State := { s with
      odo := { s.odo with acc := 0, tachFault := s.odo.tachFault || silent }
      bus := { s.bus with slot := match s.bus.slot with
        | none => none
        | some k => if k ≤ n then none else some k }
      pacer := { s.pacer with currentPost := some n }
      control := { s.control with station := .running } }
    exec (.markFrame f) s = .next ((taken.postAdvance n).latch n skipped)

/-- A good mark received while JOINING or RUNNING with an index of 0 or above 2,147,483,647, or not above the current post,
changes nothing but the mark-conflict counter, which rises by 1 and stops at 65535 (R14, R17, R25). -/
def Obligations.MarkNotAboveIsCounted : Prop :=
  ∀ (f : MarkFrame) (s : State), s.resetn = true → s.bus.heardIdle = true → s.bus.sending = none → s.bus.aborted = none →
    markGood f = true → (s.control.station = .joining ∨ s.control.station = .running) →
    (f.post.toNat = 0 ∨ 2147483647 < f.post.toNat ∨ ∃ c, s.pacer.currentPost = some c ∧ f.post.toNat ≤ c) →
    exec (.markFrame f) s = .next { s with
      pacer := { s.pacer with markConflict := if s.pacer.markConflict < 65535 then s.pacer.markConflict + 1
                                              else s.pacer.markConflict } }

/-- The latch event for post `n`: the speed is present exactly when the last latch was for the post before, and is the
interval's quotient with its limits; the last latch becomes this one; a LATCHED row is opened with the own slot alone
filled; and while the bus is ACTIVE the own sample joins the tail of the sample queue, the oldest being shed when four are
held (R5, R6, R21, R37, R63, R73). -/
def Obligations.LatchEventOpensRowAndQueuesSample : Prop :=
  ∀ (n skipped : Nat) (s : State),
    let own := s.localQuantities
    let speed : Option Nat := match s.odo.lastLatch with
      | none => none
      | some l =>
        if l.post + 1 = n then
          some (if l.interval = 0 then 65535
                else if 65535 < 25000000 / l.interval then 65535 else 25000000 / l.interval)
        else none
    let onlyOwn := ∀ i : Fin 8, inSet s.cfg.needed i = true → i = s.cfg.station
    let row : Row :=
      { post := n, state := if onlyOwn then .ready else .opened, origin := .latched, skippedBefore := skipped, speed,
        slots := (Vector.replicate 8 none).set s.cfg.station (some own) }
    let opened : State :=
      { s with odo := { s.odo with lastLatch := some { post := n, time := s.timer, interval := 0 } } }.openRow row
    let sample : QueuedSample := { post := n, sample := own.sample }
    s.latch n skipped = { opened with bus :=
      if s.bus.mode = .listenOnly then s.bus
      else if s.bus.queue.length < 4 then { s.bus with queue := s.bus.queue ++ [sample] }
      else { s.bus with queue := s.bus.queue.tail ++ [sample],
                        samplesShed := if s.bus.samplesShed < 65535 then s.bus.samplesShed + 1
                                       else s.bus.samplesShed } }

/-- The post advance to `p`: actions below `p` are MISSED (counted, MARK raised), actions due at `p` open or extend their
nozzle's valve for the full pulse, samples of `p - W` or lower are shed and counted, and then rows of `p - W` or lower are
expired (R22, R38, R72, R158, R159, R160). -/
def Obligations.PostAdvanceFiresShedsAndExpires : Prop :=
  ∀ (p : Nat) (s : State),
    let missed := (s.marker.queue.filter fun a => decide (a.due < p)).length
    let shed := (s.bus.queue.filter fun q => decide (q.post + s.cfg.depth ≤ p)).length
    let pulse : Nozzle → Valve → Valve := fun x v =>
      match s.cfg.nozzle x with
      | none => v
      | some n => if { due := p, nozzle := x } ∈ s.marker.queue then .opened (10000 * n.pulse) else v
    s.postAdvance p = State.expireRows p { s with
      marker := { queue := s.marker.queue.filter fun a => decide (p < a.due)
                  left := pulse .left s.marker.left
                  right := pulse .right s.marker.right
                  missed := max s.marker.missed (min 65535 (s.marker.missed + missed)) }
      alert := { s.alert with edges := if 0 < missed then s.alert.edges ||| 4#4 else s.alert.edges }
      bus := { s.bus with queue := s.bus.queue.filter fun q => decide (p < q.post + s.cfg.depth)
                          samplesShed := max s.bus.samplesShed (min 65535 (s.bus.samplesShed + shed)) } }

/-! ### The station bus -/

/-- BUS_IDLE_GAP while nothing is being sent: a frame that was aborted has run out, from now on frames are received, and an
ACTIVE station begins the mark of its
slot, or else the sample at the head of its queue, or nothing when it holds neither; a LISTEN_ONLY station begins
nothing (R27, R33, R35, R47). That the event recurs on a bus that stays idle is the model's choice (log 25). -/
def Obligations.IdleGapBeginsMarkBeforeSample : Prop :=
  ∀ s : State, s.resetn = true → s.bus.sending = none →
    let station := s.cfg.station
    let begun : Option TxFrame :=
      if s.bus.mode = .listenOnly then none
      else
        match s.bus.slot, s.bus.queue with
        | some k, _ => some (.mark (ownMark station k))
        | none, q :: _ => some (.sample (ownSample station q))
        | none, [] => none
    exec .busIdleGap s = .next { s with
      bus := { s.bus with heardIdle := true, aborted := none, sending := begun.map fun frame => { frame, owned := true } } }

/-- ARBITRATION_LOST at a key bit, 1 to 4, that the station sends released: it stops sending, and the slot, the queue, the
error counter and everything else stay (R29). OWN_SAMPLE_SENT for the sample at the head of the queue: it leaves the queue
and the error counter falls by 1, not below 0 (R32, R39, R43). A frame that a command has parted from slot and queue only
lowers the counter when it ends, and its mark is no completion (R13, R34). -/
def Obligations.SendingEndsByLossOrSuccess : Prop :=
  ∀ (x : Sending) (s : State), s.resetn = true → s.bus.sending = some x →
    (∀ bit : Nat, 1 ≤ bit → bit ≤ 4 → (frameBits x.frame)[bit]? = some true →
      exec (.arbitrationLost bit) s = .next { s with bus := { s.bus with sending := none } }) ∧
    (∀ f : SampleFrame, x = { frame := .sample f, owned := true } → exec .ownSampleSent s = .next { s with
      bus := { s.bus with queue := s.bus.queue.tail, txErrors := s.bus.txErrors - 1, sending := none } }) ∧
    (∀ f : SampleFrame, x = { frame := .sample f, owned := false } → exec .ownSampleSent s = .next { s with
      bus := { s.bus with txErrors := s.bus.txErrors - 1, sending := none } }) ∧
    ∀ f : MarkFrame, x = { frame := .mark f, owned := false } → exec .ownMarkCompletion s = .next { s with
      bus := { s.bus with txErrors := s.bus.txErrors - 1, sending := none } }

/-- TRANSMIT_ERROR at a driven key bit, or at any bit from 5 to the frame's end: the frame is aborted and stays pending,
and the counter rises by 1; the rise to 32 makes the mode LISTEN_ONLY and empties slot and queue, counting nothing in
samples-shed. The line is driven after the bit in error to the end of the frame, while the station takes in no frame; when
the bus is next idle that is over (R27, R30, R31, R32, R33). -/
def Obligations.TransmitErrorAbortsAndCounts : Prop :=
  ∀ (bit : Nat) (x : Sending) (s : State), s.resetn = true → s.bus.sending = some x → s.bus.txErrors < 32 →
    1 ≤ bit → bit < (frameBits x.frame).length → (bit ≤ 4 → (frameBits x.frame)[bit]? = some false) →
    let aborted : AbortedFrame := { frame := x.frame, bit }
    let t : State := { s with bus :=
      if s.bus.txErrors = 31 then
        { s.bus with txErrors := 32, mode := .listenOnly, slot := none, queue := [], sending := none,
                     aborted := some aborted }
      else { s.bus with txErrors := s.bus.txErrors + 1, sending := none, aborted := some aborted } }
    exec (.transmitError bit) s = .next t ∧
    (∃ bits, t.busBits = some bits ∧ bits.length = (frameBits x.frame).length ∧
      (∀ i ≤ bit, bits[i]? = (frameBits x.frame)[i]?) ∧ ∀ i, bit < i → i < bits.length → bits[i]? = some false) ∧
    (∀ m p, exec (.markFrame m) t = .next t ∧ exec (.sampleFrame p) t = .next t) ∧
    ∃ u, exec .busIdleGap t = .next u ∧ u.bus.aborted = none

/-- A received frame whose CRC differs from the check over its covered bits, or with an end bit driven, changes nothing but
CRC-error, in every station state (R40); while the bus has not been found idle since power-on (R47), the station is sending
(R18, R43; the model's reading, log 14) or it is driving out a frame it aborted (R31), nothing is received. A good frame
outside JOINING and RUNNING changes nothing (R9, R42). In them a good SAMPLE with the own number is counted in
duplicate-station and sets the condition (R44), whatever its post (for a post of 0 or above 2,147,483,647 the model's
choice, log 26), and another one with such a post counts one CRC-error (R42). Counters stop at 65535. -/
def Obligations.FrameNotDeliveredIsDisposedOf : Prop :=
  ∀ (m : MarkFrame) (p : SampleFrame) (s : State), s.resetn = true →
    let up : Nat → Nat := fun n => if n < 65535 then n + 1 else n
    let counted : State := { s with bus := { s.bus with crcErrors := up s.bus.crcErrors } }
    let armed := s.control.station = .joining ∨ s.control.station = .running
    let goodMark := m.crc = crcBits (markCovered m) ∧ m.ending = 3#2
    let goodSample := p.crc = crcBits (sampleCovered p) ∧ p.ending = 3#2
    (s.bus.heardIdle = false ∨ s.bus.sending ≠ none ∨ s.bus.aborted ≠ none →
      exec (.markFrame m) s = .next s ∧ exec (.sampleFrame p) s = .next s) ∧
    (s.bus.heardIdle = true → s.bus.sending = none → s.bus.aborted = none →
      (¬ goodMark → exec (.markFrame m) s = .next counted) ∧
      (¬ goodSample → exec (.sampleFrame p) s = .next counted) ∧
      (goodMark → ¬ armed → exec (.markFrame m) s = .next s) ∧
      (goodSample → ¬ armed → exec (.sampleFrame p) s = .next s) ∧
      (goodSample → armed → p.sender.toNat = s.cfg.station.val → exec (.sampleFrame p) s = .next { s with
        bus := { s.bus with duplicate := true, duplicateStations := up s.bus.duplicateStations } }) ∧
      (goodSample → armed → p.sender.toNat ≠ s.cfg.station.val → (p.post.toNat = 0 ∨ 2147483647 < p.post.toNat) →
        exec (.sampleFrame p) s = .next counted))

/-- The bits of a frame stand where the table of R28 has them, each field most significant bit first, a driven bit being 0;
a receiver finds the frame good exactly when its CRC is the check over bits 1 to 36 of a MARK or 1 to 116 of a SAMPLE and
both end bits are released (R40), and reads a value as absent, or with its flags, by its presence bit. The frames a station
forms are good and carry its number, the post, and the four values in two's complement with presence and flags, 0 with
flags 0 for an absent value; they give back what was put in (R28, R40). -/
def Obligations.FramesReadBackAsFormed : Prop :=
  let number : List Bool → Nat → Nat → Nat := fun b i n =>
    ((b.drop i).take n).foldl (fun x bit => 2 * x + bit.toNat) 0
  (∀ f : MarkFrame, let b := frameBits (.mark f)
    b.length = 55 ∧ number b 0 1 = 0 ∧ number b 1 1 = 0 ∧ number b 2 3 = f.sender.toNat ∧
    number b 5 32 = f.post.toNat ∧ number b 37 16 = f.crc.toNat ∧ number b 53 2 = f.ending.toNat ∧
    (markGood f = true ↔ number b 37 16 = (crcBits ((b.drop 1).take 36)).toNat ∧ number b 53 2 = 3)) ∧
  (∀ f : SampleFrame, let b := frameBits (.sample f)
    let values := [((frameSample f).yA, f.yA), ((frameSample f).zL, f.zL), ((frameSample f).zR, f.zR),
      ((frameSample f).cant, f.cant)]
    b.length = 135 ∧ number b 0 1 = 0 ∧ number b 1 1 = 1 ∧ number b 2 3 = f.sender.toNat ∧
    number b 5 32 = f.post.toNat ∧ number b 37 16 = f.yA.toNat ∧ number b 53 16 = f.zL.toNat ∧
    number b 69 16 = f.zR.toNat ∧ number b 85 16 = f.cant.toNat ∧ number b 101 4 = f.presence.toNat ∧
    number b 105 12 = f.flags.toNat ∧ number b 117 16 = f.crc.toNat ∧ number b 133 2 = f.ending.toNat ∧
    (sampleGood f = true ↔ number b 117 16 = (crcBits ((b.drop 1).take 116)).toNat ∧ number b 133 2 = 3) ∧
    ∀ (i : Nat) (v : Option Value) (x : Half), values[i]? = some (v, x) →
      v = if number b (101 + i) 1 = 0 then none else some
        { dc := x.toInt
          flags := { held := number b (105 + 3 * i) 1 == 1, clipped := number b (106 + 3 * i) 1 == 1
                     clamped := number b (107 + 3 * i) 1 == 1 } }) ∧
  ∀ (station : Fin 8) (k : Nat) (q : QueuedSample), k < 4294967296 → q.post < 4294967296 → q.sample.inRange →
    let m := frameBits (.mark (ownMark station k))
    let p := frameBits (.sample (ownSample station q))
    (markGood (ownMark station k) = true ∧ number m 2 3 = station ∧ number m 5 32 = k ∧
      senderOf (ownMark station k).sender = station ∧ (ownMark station k).post.toNat = k) ∧
    (sampleGood (ownSample station q) = true ∧ number p 2 3 = station ∧ number p 5 32 = q.post ∧
      senderOf (ownSample station q).sender = station ∧ (ownSample station q).post.toNat = q.post ∧
      frameSample (ownSample station q) = q.sample) ∧
    ∀ (i : Nat) (v : Option Value), [q.sample.yA, q.sample.zL, q.sample.zR, q.sample.cant][i]? = some v →
      number p (101 + i) 1 = v.isSome.toNat ∧
      (v = none → number p (37 + 16 * i) 16 = 0 ∧ number p (105 + 3 * i) 3 = 0) ∧
      ∀ x, v = some x → (number p (37 + 16 * i) 16 : Int) = x.dc % 65536 ∧
        number p (105 + 3 * i) 1 = x.flags.held.toNat ∧ number p (106 + 3 * i) 1 = x.flags.clipped.toNat ∧
        number p (107 + 3 * i) 1 = x.flags.clamped.toNat

/-! ### The sensor port -/

/-- BURST_END while the receiver groups bytes: the levels of SDATA make bytes, each a low start bit, eight data bits with
the least significant first and a stop bit, and bursts, each ended by 20 bit times of high line, less than which leaves
bytes in one burst (R49; how a gap is counted and what follows a low stop bit, log 30). A burst of exactly 13 bytes, every stop bit high, header 166, sum 0 modulo
256 is taken into the latest set with its arrival time and restarts the sensor age; any other burst changes nothing but
sensor-frame-error. The set's five values are bytes 2 to 11, high byte first in two's complement, and its five over-range
flags the low bits of byte 12, least significant first (R50, R51, R53). In SELF_TEST, and whenever the receiver is off,
nothing is taken in; after SELF_TEST the levels before the first complete idle gap are neither taken nor counted, and
those after it are judged as ever, a burst in the same levels too (R52; log 11). -/
def Obligations.BurstIsJudgedWhole : Prop :=
  (∀ (levels : List Bool) (s : State), s.resetn = true →
    (s.Inv → s.control.station = .selfTest → ∀ gapBefore, exec (.burstEnd levels gapBefore) s = .next s) ∧
    (s.sensor.receiver = .off → ∀ gapBefore, exec (.burstEnd levels gapBefore) s = .next s) ∧
    (s.sensor.receiver = .waiting →
      let noGap : List Bool → Prop := fun l => ∀ p q, l ≠ p ++ List.replicate 20 true ++ q
      (noGap levels → exec (.burstEnd levels false) s = .next s) ∧
      (∀ before rest, levels = before ++ List.replicate 20 true ++ rest → noGap (before ++ List.replicate 19 true) →
        exec (.burstEnd levels false) s =
          exec (.burstEnd rest true) { s with sensor := { s.sensor with receiver := .receiving } }) ∧
      exec (.burstEnd levels true) s =
        exec (.burstEnd levels true) { s with sensor := { s.sensor with receiver := .receiving } })) ∧
  (∀ (levels : List Bool) (gapBefore : Bool) (s : State), s.resetn = true → s.sensor.receiver = .receiving →
    let judged : Sensor → List RxByte → Sensor := fun x bytes =>
      if bytes.length = 13 ∧ (∀ x ∈ bytes, x.stopHigh = true) ∧ bytes.head?.map RxByte.data = some 166#8 ∧
          (bytes.map fun x => x.data.toNat).sum % 256 = 0 then
        { x with latest := some (frameSet bytes s.timer), age := some 0 }
      else { x with frameErrors := if x.frameErrors < 65535 then x.frameErrors + 1 else x.frameErrors }
    exec (.burstEnd levels gapBefore) s = .next { s with sensor := (sdataBursts levels).foldl judged s.sensor } ∧
    ∀ bytes, sdataBursts levels = [bytes] →
      exec (.burstEnd levels gapBefore) s = .next { s with sensor := judged s.sensor bytes }) ∧
  (let line : RxByte → List Bool := fun x => false :: (List.range 8).map x.data.getLsbD ++ [x.stopHigh]
    let high : Nat → List Bool := fun n => List.replicate n true
    (∀ (between : List (RxByte × Nat)) (last : RxByte) (rest : List Bool),
      (∀ u ∈ between, u.2 < 20 ∧ (u.1.stopHigh = false → 1 ≤ u.2)) →
      let burst := between.flatMap (fun u => line u.1 ++ high u.2) ++ line last
      sdataBursts (burst ++ high 20 ++ rest) = (between.map Prod.fst ++ [last]) :: sdataBursts rest ∧
      ∀ n < 20, sdataBursts (burst ++ high n) = []) ∧
    ∀ (x : RxByte) (n : Nat), x.stopHigh = false →
      sdataBursts (line x ++ List.replicate n false) = [] ∧
      sdataBursts (line x ++ List.replicate n false ++ high 20) = [[x]]) ∧
  ∀ (h a1 a0 b1 b0 c1 c0 d1 d0 e1 e0 f k : RxByte) (time : Nat),
    frameSet [h, a1, a0, b1, b0, c1, c0, d1, d0, e1, e0, f, k] time =
      { raw := { gL := (a1.data ++ a0.data).toInt, gR := (b1.data ++ b0.data).toInt, zL := (c1.data ++ c0.data).toInt,
                 zR := (d1.data ++ d0.data).toInt, rho := (e1.data ++ e0.data).toInt }
        overRange := { gL := f.data.getLsbD 0, gR := f.data.getLsbD 1, zL := f.data.getLsbD 2, zR := f.data.getLsbD 3,
                       rho := f.data.getLsbD 4 }
        arrival := time }

/-- STALE while JOINING or RUNNING with an age within the limit: time passes until the age is one µs above the limit (the
model's choice, log 2); the STALE source is pending then, and was not before (R55). VALVE_EXPIRY for an OPEN valve: its
remaining time passes and it is CLOSED; a CLOSED valve has nothing to expire (log 2; R160, R161). Time that passes is a
sequence of ticks. -/
def Obligations.TimedEventsHappenAtTheirMoment : Prop :=
  (∀ (age : Nat) (s : State), s.resetn = true → (s.control.station = .joining ∨ s.control.station = .running) →
    s.sensor.age = some age → s.cfg.staleMs ≤ 255 → age ≤ 1000 * s.cfg.staleMs →
    let t := s.elapse (1000 * s.cfg.staleMs + 1 - age)
    exec .stale s = .next t ∧ t.sensor.age = some (1000 * s.cfg.staleMs + 1) ∧
      t.pendingSet.getLsbD 4 = true ∧ s.pendingSet.getLsbD 4 = false) ∧
  (∀ (x : Nozzle) (r : Nat) (s : State), s.resetn = true → s.marker.valve x = .opened r →
    exec (.valveExpiry x) s = .next (s.elapse r) ∧ (s.elapse r).marker.valve x = .closed) ∧
  (∀ (x : Nozzle) (s : State), s.resetn = true → s.marker.left ≠ .opened 0 → s.marker.right ≠ .opened 0 →
    s.marker.valve x = .closed → exec (.valveExpiry x) s = .next s) ∧
  ∀ (n : Nat) (s : State), s.elapse (n + 1) = (s.elapse n).tick

/-- The local quantities of a latch: all absent with no set held; else each channel is round((raw - O) G / 4096), HELD when
the age exceeds the stale limit, CLIPPED when over range, CLAMPED when clamped, and Gdev = gL + gR,
yA = round((gR - gL) / 2), the rail tops and C = rho + zL - zR follow, clamped, with the union of their inputs' flags
(R56 to R62). Rounding is to the nearest integer with ties away from zero: no integer is nearer, and of two equally near
ones the result is the one of greater magnitude (spec/00_scope.md, Rounding). -/
def Obligations.LocalQuantitiesAreDerived : Prop :=
  (∀ s : State,
    (s.sensor.latest = none → s.localQuantities =
      { sample := { yA := none, zL := none, zR := none, cant := none }, gdev := none }) ∧
    ∀ x, s.sensor.latest = some x →
      let held := match s.sensor.age with
        | none => false
        | some age => decide (1000 * s.cfg.staleMs < age)
      let channel : Calibration → Int → Bool → Value := fun k raw clipped =>
        let exact := roundDiv ((raw - k.offset) * k.gain) 4096
        let dc := max (-32768) (min 32767 exact)
        { dc, flags := { held, clipped, clamped := decide (exact < -32768 ∨ 32767 < exact) } }
      let c := s.cfg.calibration
      let gL := channel c.gL x.raw.gL x.overRange.gL
      let gR := channel c.gR x.raw.gR x.overRange.gR
      let zL := channel c.zL x.raw.zL x.overRange.zL
      let zR := channel c.zR x.raw.zR x.overRange.zR
      let rho := channel c.rho x.raw.rho x.overRange.rho
      let derived : Int → List Value → Value := fun exact inputs =>
        { dc := max (-32768) (min 32767 exact)
          flags := { held := inputs.any fun v => v.flags.held, clipped := inputs.any fun v => v.flags.clipped
                     clamped := (inputs.any fun v => v.flags.clamped) ||
                       decide (exact < -32768 ∨ 32767 < exact) } }
      s.localQuantities =
        { sample := { yA := some (derived (roundDiv (gR.dc - gL.dc) 2) [gL, gR]), zL := some zL, zR := some zR
                      cant := some (derived (rho.dc + zL.dc - zR.dc) [rho, zL, zR]) }
          gdev := some (derived (gL.dc + gR.dc) [gL, gR]) }) ∧
  ∀ (n : Int) (d : Nat), 0 < d →
    let q := roundDiv n d
    ∀ z : Int, (d * q - n).natAbs ≤ (d * z - n).natAbs ∧
      ((d * q - n).natAbs = (d * z - n).natAbs → z.natAbs ≤ q.natAbs)

/-! ### The post window and the chord engine -/

/-- A delivered peer sample falls under exactly one of four cases: above the current post (or with none) it is adopted
without a latch, opens a NO_OWN_LATCH row with every slot absent and is stored; with a row held and its slot absent it is
stored; with the slot present it is counted in duplicate-sample; with no row held it is counted late for its sender
(R20, R42, R74, R76 to R79). -/
def Obligations.DeliveredSampleTakesOneOfFourCases : Prop :=
  ∀ (f : SampleFrame) (s : State), s.resetn = true → s.bus.heardIdle = true → s.bus.sending = none → s.bus.aborted = none →
    sampleGood f = true → (s.control.station = .joining ∨ s.control.station = .running) →
    f.sender.toNat ≠ s.cfg.station.val →
    let n := f.post.toNat
    let sender := senderOf f.sender
    let up : Nat → Nat := fun n => if n < 65535 then n + 1 else n
    1 ≤ n → n ≤ 2147483647 →
    let silent := match s.odo.edgeAge with
      | none => true
      | some age => decide (10000 * s.cfg.tachLossSteps < age)
    let skipped := match s.pacer.currentPost with
      | none => 0
      | some c => min 65535 (n - c - 1)
    let taken : State := { s with
      odo := { s.odo with acc := 0, tachFault := s.odo.tachFault || silent }
      bus := { s.bus with slot := match s.bus.slot with
        | none => none
        | some k => if k ≤ n then none else some k }
      pacer := { s.pacer with currentPost := some n }
      control := { s.control with station := .running } }
    let row : Row :=
      { post := n, state := if s.cfg.needed = 0 then .ready else .opened, origin := .noOwnLatch, skippedBefore := skipped,
        speed := none, slots := Vector.replicate 8 none }
    ((∀ c, s.pacer.currentPost = some c → c < n) → exec (.sampleFrame f) s =
      .next (((taken.postAdvance n).openRow row).storeSample sender n (frameSample f))) ∧
    ∀ c, s.pacer.currentPost = some c → n ≤ c →
      (∀ r, s.window.rows.find? (fun r => r.post == n) = some r →
        (r.slots[sender] = none → exec (.sampleFrame f) s = .next (s.storeSample sender n (frameSample f))) ∧
        (r.slots[sender] ≠ none → exec (.sampleFrame f) s = .next { s with
          window := { s.window with duplicateSamples := up s.window.duplicateSamples } })) ∧
      (s.window.rows.find? (fun r => r.post == n) = none → exec (.sampleFrame f) s = .next { s with
        window := { s.window with late := s.window.late.set sender (up s.window.late[sender]) } })

/-- Storing a sample fills its sender's slot in the row for its post with exactly the sample, makes the row READY when the
needed set is then present, leaves every other row and slot, and then tests the window (R68, R71, R77). -/
def Obligations.StoredSampleFillsOneSlot : Prop :=
  ∀ (sender : Fin 8) (n : Nat) (x : Sample) (s : State), ∃ rows : List Row,
    s.storeSample sender n x = State.settleRows { s with window := { s.window with rows } } ∧
    rows.length = s.window.rows.length ∧
    ∀ (k : Nat) (r : Row), s.window.rows[k]? = some r → ∃ r', rows[k]? = some r' ∧
      (r.post ≠ n → r' = r) ∧
      (r.post = n →
        r'.post = r.post ∧ r'.origin = r.origin ∧ r'.skippedBefore = r.skippedBefore ∧ r'.speed = r.speed ∧
        (∀ i : Fin 8, r'.slots[i] = if i = sender then some { sample := x, gdev := none } else r.slots[i]) ∧
        (r'.state = .ready ↔ r.state = .ready ∨
          ∀ i : Fin 8, inSet s.cfg.needed i = true → (r'.slots[i]).isSome = true))

/-- Rows leave from the oldest end while the oldest is READY, and at a post advance while it is READY or has fallen to
`p - W` or below; each retires whole before the next, and the rows behind stay as they are. Nothing outside the window,
the FIFO, the ring, the tracker, the marker queue and the alert edges changes. A row is opened at the young end, and the
window is then tested (R72, R73, R80, R83, R92). -/
def Obligations.RowsRetireFromTheOldestEnd : Prop :=
  ∀ (p : Nat) (row : Row) (s : State),
    let retired := fun (leaves : Row → Bool) =>
      let f := (s.window.rows.takeWhile leaves).foldl (fun f row => retireRow s.trackEnv row f) s.flow
      s.withFlow { f with window := { f.window with rows := s.window.rows.dropWhile leaves } }
    s.settleRows = retired (fun row => row.state == .ready) ∧
    State.expireRows p s = retired (fun row => decide (row.post + s.cfg.depth ≤ p) || row.state == .ready) ∧
    s.openRow row = State.settleRows { s with window := { s.window with rows := s.window.rows ++ [row] } }

/-- One retirement: each needed peer with an absent slot is counted in missed-row, PEER is raised when there is one, and the
row's one record goes to the FIFO, to the ring and to the tracker (R81, R82, R83, R103, R106). -/
def Obligations.RetirementHandsOnOneRecord : Prop :=
  ∀ (e : TrackEnv) (row : Row) (f : Flow),
    let absent : Fin 8 → Prop := fun i =>
      inSet e.cfg.needed i = true ∧ i ≠ e.cfg.station ∧ row.slots[i] = none
    let g := recordOf e.cfg f.ring row
    (∀ i : Fin 8, inSet g.missing i = true ↔ absent i) ∧
    (∀ i : Fin 8, (retireRow e row f).window.missed[i] =
      if absent i ∧ f.window.missed[i] < 65535 then f.window.missed[i] + 1 else f.window.missed[i]) ∧
    (retireRow e row f).window.rows = f.window.rows ∧ (retireRow e row f).window.late = f.window.late ∧
    (retireRow e row f).window.duplicateSamples = f.window.duplicateSamples ∧
    (retireRow e row f).results = f.results.store g ∧ (retireRow e row f).ring = ringAppend g f.ring ∧
    (retireRow e row f).tracks = evaluateRecord e g { f.tracks with
      alert := { f.tracks.alert with
        edges := if g.missing = 0 then f.tracks.alert.edges else f.tracks.alert.edges ||| 8#4 } }

/-- The geometry record of a row: identity fields and speed copied, the track post the car post less the car offset, Gdev
and C from the own slot alone, lost-before 0, and every value beyond the plan's counts absent; a row without an own slot
yields no Gdev, C, chord or twist (R93, R94, R95, R104, R107, R110). -/
def Obligations.RecordTakesItsFieldsFromTheRow : Prop :=
  ∀ (c : StationConfig) (ring : List GeometryRecord) (row : Row),
    let g := recordOf c ring row
    g.carPost = row.post ∧ g.trackPost = (row.post : Int) - c.carOffset ∧ g.skippedBefore = row.skippedBefore ∧
    g.origin = row.origin ∧ g.speed = row.speed ∧ g.lostBefore = 0 ∧
    (∀ own, row.slots[c.station] = some own → g.gdev = own.gdev ∧ g.cant = own.sample.cant) ∧
    (row.slots[c.station] = none → g.gdev = none ∧ g.cant = none ∧
      (∀ i : Fin 4, g.chords[i] = none) ∧ ∀ j : Fin 2, g.twists[j] = none) ∧
    (∀ i : Fin 4, c.chords.length ≤ i → g.chords[i] = none) ∧
    (∀ (i : Fin 4) (k : Chord), c.chords[i.val]? = some k → g.chords[i] = chordValue c.station row k) ∧
    (∀ j : Fin 2, c.twists.length ≤ j → g.twists[j] = none) ∧
    ∀ (j : Fin 2) (k : Twist), c.twists[j.val]? = some k → g.twists[j] = twistValue c.station ring row k

/-- The value of a chord: absent when one of its three inputs is; else n = (a + b) yM - b yF - a yB exactly, v = n / (a + b)
rounded and not clamped, s = v k / 256 rounded, and s clamped, with the union of the inputs' flags and CLAMPED when the
clamp changed s (R96 to R99). -/
def Obligations.ChordValueIsTheScaledVersine : Prop :=
  ∀ (own : Fin 8) (row : Row) (c : Chord),
    let pick : Fin 8 → Option Value := fun i =>
      match row.slots[i] with
      | none => none
      | some x =>
        match c.quantity with
        | .alignment => x.sample.yA
        | .topLeft => x.sample.zL
        | .topRight => x.sample.zR
    ((pick c.front = none ∨ pick own = none ∨ pick c.rear = none) → chordValue own row c = none) ∧
    ∀ yF yM yB : Value, pick c.front = some yF → pick own = some yM → pick c.rear = some yB →
      let n := ((c.a : Int) + c.b) * yM.dc - c.b * yF.dc - c.a * yB.dc
      let v := roundDiv n (c.a + c.b)
      let x := roundDiv (v * c.k) 256
      chordValue own row c = some
        { dc := max (-32768) (min 32767 x)
          flags := { held := yF.flags.held || yM.flags.held || yB.flags.held
                     clipped := yF.flags.clipped || yM.flags.clipped || yB.flags.clipped
                     clamped := yF.flags.clamped || yM.flags.clamped || yB.flags.clamped ||
                       decide (x < -32768 ∨ 32767 < x) } }

/-- The value of a twist: this station's cant less the partner's cant from the same row, or less the cant of the ring's
record for the car post `base` posts back; absent when either is, clamped, with the union of flags (R100, R101, R102). -/
def Obligations.TwistValueIsTheCantDifference : Prop :=
  ∀ (own : Fin 8) (ring : List GeometryRecord) (row : Row),
    let cant : Fin 8 → Option Value := fun i =>
      match row.slots[i] with
      | none => none
      | some x => x.sample.cant
    let less : Option Value → Option Value → Option Value := fun x y =>
      match x, y with
      | some x, some y =>
        let d := x.dc - y.dc
        some { dc := max (-32768) (min 32767 d)
               flags := { held := x.flags.held || y.flags.held, clipped := x.flags.clipped || y.flags.clipped
                          clamped := x.flags.clamped || y.flags.clamped || decide (d < -32768 ∨ 32767 < d) } }
      | _, _ => none
    (∀ partner : Fin 8, twistValue own ring row (.partner partner) = less (cant own) (cant partner)) ∧
    ∀ base : Nat,
      (row.post ≤ base → twistValue own ring row (.history base) = none) ∧
      (base < row.post → (∀ g ∈ ring, g.carPost ≠ row.post - base) → twistValue own ring row (.history base) = none) ∧
      (base < row.post → ∀ g ∈ ring, g.carPost = row.post - base →
        (ring.Pairwise fun x y => x.carPost < y.carPost) →
        twistValue own ring row (.history base) = less (cant own) g.cant)

/-! ### Records and their stores -/

/-- A record handed to the FIFO is appended with lost-before from the tally, which becomes 0, while fewer than 64 are held;
else it is discarded and results-lost and the tally rise by 1, saturating at 65535 and 255. Either way stored records and
results-lost together rise by one, until results-lost saturates (R113 to R116). The ring keeps the 512 youngest records in
production order, and while car posts rise strictly a lookup by car post or by track post finds a record exactly when the
ring holds it (R121, R122, R123). -/
def Obligations.StoresKeepTheRecords : Prop :=
  (∀ (g : GeometryRecord) (r : Results),
    (r.fifo.length < 64 → r.store g =
      { fifo := r.fifo ++ [{ g with lostBefore := r.tally }], tally := 0, lost := r.lost }) ∧
    (64 ≤ r.fifo.length → r.store g =
      { fifo := r.fifo, tally := if r.tally < 255 then r.tally + 1 else r.tally,
        lost := if r.lost < 65535 then r.lost + 1 else r.lost }) ∧
    (r.lost < 65535 → (r.store g).fifo.length + (r.store g).lost = r.fifo.length + r.lost + 1)) ∧
  ∀ (g : GeometryRecord) (ring : List GeometryRecord), ring.length ≤ 512 →
    ringAppend g ring = (ring ++ [g]).drop (ring.length + 1 - 512) ∧
    ((ring.Pairwise fun x y => x.carPost < y.carPost) → g ∈ ring → ringLookup ring g.carPost = some g) ∧
    ((ring.Pairwise fun x y => x.trackPost < y.trackPost) → g ∈ ring → trackLookup ring g.trackPost = some g) ∧
    (∀ n, (∀ x ∈ ring, x.carPost ≠ n) → ringLookup ring n = none) ∧
    ∀ t, (∀ x ∈ ring, x.trackPost ≠ t) → trackLookup ring t = none

/-- The 40 bytes of a geometry record (R112) and the 28 bytes of a run record (R145), field by field: unsigned fields modulo
their width, signed ones in two's complement, absent values as 0, the presence mask and the flag groups bit by bit, and
the check over all the bytes before it. -/
def Obligations.WireFormsHaveTheirFields : Prop :=
  (∀ (station : Fin 8) (g : GeometryRecord),
    let b := recordBytes station g
    let values := [g.gdev, g.cant, g.chords[0], g.chords[1], g.chords[2], g.chords[3], g.twists[0], g.twists[1]]
    b.length = 40 ∧ fieldAt b 0 4 = g.carPost % 4294967296 ∧ (fieldAt b 4 4 : Int) = g.trackPost % 4294967296 ∧
    fieldAt b 8 2 = g.skippedBefore % 65536 ∧ fieldAt b 10 1 = g.lostBefore % 256 ∧
    fieldAt b 11 1 = (if g.origin = .latched then 0 else 1) ∧ fieldAt b 12 1 = g.missing.toNat ∧
    fieldAt b 13 1 = station.val ∧
    (fieldAt b 14 2).testBit 0 = g.speed.isSome ∧ fieldAt b 14 2 < 512 ∧ fieldAt b 16 2 = g.speed.getD 0 % 65536 ∧
    (∀ (i : Nat) (v : Option Value), values[i]? = some v →
      (fieldAt b 14 2).testBit (i + 1) = v.isSome ∧
      (v = none → fieldAt b (18 + 2 * i) 2 = 0 ∧ ∀ k < 4, (fieldAt b 34 4).testBit (28 - 4 * i + k) = false) ∧
      ∀ x, v = some x → (fieldAt b (18 + 2 * i) 2 : Int) = x.dc % 65536 ∧
        (fieldAt b 34 4).testBit (31 - 4 * i) = x.flags.held ∧
        (fieldAt b 34 4).testBit (30 - 4 * i) = x.flags.clipped ∧
        (fieldAt b 34 4).testBit (29 - 4 * i) = x.flags.clamped ∧
        (fieldAt b 34 4).testBit (28 - 4 * i) = false) ∧
    fieldAt b 38 2 = (crcBytes (b.take 38)).toNat) ∧
  ∀ (station : Fin 8) (r : RunRecord),
    let b := runBytes station r
    let outcome : MarkOutcome → Nat := fun x =>
      match x with
      | .none => 0
      | .scheduled => 1
      | .merged => 2
      | .tooLate => 3
      | .dropped => 4
    b.length = 28 ∧ fieldAt b 0 2 = r.sequence.toNat ∧ fieldAt b 2 1 = r.measure % 256 ∧
    fieldAt b 3 1 = r.cls % 256 ∧ fieldAt b 4 1 = (if r.negative = true then 1 else 0) ∧
    fieldAt b 5 1 = (match r.cause with
      | .gap => 0
      | .truncated => 1
      | .forced => 2) ∧
    fieldAt b 6 1 = (if r.hadMissing = true then 1 else 0) ∧
    fieldAt b 7 1 = 16 * outcome r.left + outcome r.right ∧
    (fieldAt b 8 4 : Int) = r.start % 4294967296 ∧ (fieldAt b 12 4 : Int) = r.last % 4294967296 ∧
    (fieldAt b 16 4 : Int) = r.peakPost % 4294967296 ∧ fieldAt b 20 2 = r.length % 65536 ∧
    fieldAt b 22 2 = r.peak % 65536 ∧ fieldAt b 24 1 = station.val ∧ fieldAt b 25 1 = 0 ∧
    fieldAt b 26 2 = (crcBytes (b.take 26)).toNat

/-- The check of R28 and R112 over the bytes 123456789 is 29B1 in hexadecimal, and bytes followed by their check, high byte
first, leave the register at 0: a receiver can test the whole sequence. -/
def Obligations.CheckLeavesZeroOverItsOwnBytes : Prop :=
  crcBytes [0x31, 0x32, 0x33, 0x34, 0x35, 0x36, 0x37, 0x38, 0x39] = 0x29B1#16 ∧
  ∀ bytes : List Byte, crcBytes (withCheck bytes) = 0

/-! ### The exceedance tracker and the run queue -/

/-- What a post is to a measure: an absent or HELD value is no data; else d is the value less the nominal, the class is 3, 2,
1 or 0 by the limits passed strictly, and the post is exceeding when |d| is greater than L1 - H (R129, R130). -/
def Obligations.PostIsJudgedByItsDeviation : Prop :=
  ∀ (m : TrackedMeasure) (g : GeometryRecord), m.l1 ≤ m.l2 → m.l2 ≤ m.l3 → m.h ≤ m.l1 →
    let value : Option Value := match m.measure with
      | .gdev => g.gdev
      | .cant => g.cant
      | .chord i => g.chords[i]
      | .twist j => g.twists[j]
    (value = none → deviation m g = none) ∧
    ∀ v, value = some v →
      (v.flags.held = true → deviation m g = none) ∧
      (v.flags.held = false → deviation m g = some (v.dc - m.nominal)) ∧
      ∀ d : Int,
        (postClass m d = 3 ↔ m.l3 < d.natAbs) ∧ (postClass m d = 2 ↔ m.l2 < d.natAbs ∧ d.natAbs ≤ m.l3) ∧
        (postClass m d = 1 ↔ m.l1 < d.natAbs ∧ d.natAbs ≤ m.l2) ∧ (postClass m d = 0 ↔ d.natAbs ≤ m.l1) ∧
        (exceeding m d = true ↔ m.l1 - m.h < d.natAbs) ∧ (1 ≤ postClass m d → exceeding m d = true)

/-- An IDLE measure: no data or a class of 0 leaves everything as it was, and so do skipped posts (R135); a class of 1 or
above opens a run at the post with the fields of R132, raises PLAN at class 2 and ACT at class 3 (R141), and makes the
START-anchored requests for the class opened at (R142). A record is evaluated by the measures in ascending index, each
taking the skipped posts before the record's own post (R129, R135). -/
def Obligations.IdleMeasureOpensRunAtClassOne : Prop :=
  (∀ (e : TrackEnv) (i : Fin 8) (m : TrackedMeasure) (g : GeometryRecord) (t : Tracks), t.tracker.runs[i] = none →
    (∀ n, takeSkipped e i m n t = t) ∧
    (deviation m g = none → takePost e i m g t = t) ∧
    ∀ d, deviation m g = some d →
      (postClass m d = 0 → takePost e i m g t = t) ∧
      (1 ≤ postClass m d →
        let run : OpenRun :=
          { start := g.trackPost, cls := postClass m d, peak := d.natAbs, negative := decide (d < 0),
            peakPost := g.trackPost, last := g.trackPost, gap := 0, hadMissing := false, left := .none, right := .none }
        let raised : BitVec 4 := if postClass m d = 2 then 2#4 else if postClass m d = 3 then 1#4 else 0#4
        let asked := startRequests e i 0 (run, { t with alert := { t.alert with edges := t.alert.edges ||| raised } })
        takePost e i m g t = { asked.2 with
          tracker := { t.tracker with runs := t.tracker.runs.set i (some asked.1) } })) ∧
  ∀ (e : TrackEnv) (g : GeometryRecord) (t : Tracks), evaluateRecord e g t =
    (([0, 1, 2, 3, 4, 5, 6, 7] : List (Fin 8)).zip e.cfg.measures).foldl
      (fun t im => takePost e im.1 im.2 g (takeSkipped e im.1 im.2 g.skippedBefore t)) t

/-- An OPEN measure, its gap count within G, takes a post that is not exceeding or is no data by adding 1 to the gap count
(and setting HAD_MISSING for no data); when the count passes G the run closes with cause GAP. Skipped posts are so many
no-data posts taken one after the other, until the run closes, and the rest of them is disregarded (R134, R135). -/
def Obligations.GapCountClosesRun : Prop :=
  ∀ (e : TrackEnv) (i : Fin 8) (m : TrackedMeasure) (r : OpenRun) (t : Tracks),
    t.tracker.runs[i] = some r → r.gap ≤ m.g →
    let counted : Bool → Tracks := fun missing =>
      let r' := { r with gap := r.gap + 1, hadMissing := r.hadMissing || missing }
      if m.g < r.gap + 1 then closeRun e i m .gap r' t
      else { t with tracker := { t.tracker with runs := t.tracker.runs.set i (some r') } }
    (∀ g, deviation m g = none → takePost e i m g t = counted true) ∧
    (∀ g d, deviation m g = some d → exceeding m d = false → takePost e i m g t = counted false) ∧
    takeSkipped e i m 0 t = t ∧ takeSkipped e i m 1 t = counted true ∧
    (∀ n, takeSkipped e i m (n + 1) t = takeSkipped e i m n (takeSkipped e i m 1 t)) ∧
    ∀ n (u : Tracks), u.tracker.runs[i] = none → takeSkipped e i m n u = u

/-- An OPEN measure takes an exceeding post P: beyond 4096 posts the run closes TRUNCATED first and P is taken by the now IDLE
measure; else P is the last exceeding post with gap count 0, a strictly greater |d| becomes the peak, a higher class is
kept with its alerts and START-anchored requests, and a run of exactly 4096 posts then closes TRUNCATED (R133, R136,
R141, R142). -/
def Obligations.ExceedingPostExtendsRun : Prop :=
  ∀ (e : TrackEnv) (i : Fin 8) (m : TrackedMeasure) (g : GeometryRecord) (d : Int) (r : OpenRun) (t : Tracks),
    t.tracker.runs[i] = some r → deviation m g = some d → exceeding m d = true → r.cls ≤ 3 →
    let p := g.trackPost
    let length := p - r.start + 1
    let cls := if r.cls < postClass m d then postClass m d else r.cls
    let peaked : OpenRun := if r.peak < d.natAbs then
        { r with peak := d.natAbs, negative := decide (d < 0), peakPost := p }
      else r
    let run : OpenRun := { peaked with last := p, gap := 0, cls }
    let raised : BitVec 4 := if r.cls < 2 ∧ cls = 2 then 2#4 else if r.cls < 3 ∧ cls = 3 then 1#4 else 0#4
    let asked := startRequests e i r.cls (run, { t with alert := { t.alert with edges := t.alert.edges ||| raised } })
    let taken : Tracks := { asked.2 with
      tracker := { t.tracker with runs := t.tracker.runs.set i (some asked.1) } }
    (4096 < length → takePost e i m g t = takePost e i m g (closeRun e i m .truncated r t)) ∧
    (length < 4096 → takePost e i m g t = taken) ∧
    (length = 4096 → takePost e i m g t = closeRun e i m .truncated asked.1 taken)

/-- A close makes the measure IDLE. A class 1 run shorter than M only counts a spike; any other run makes its PEAK-anchored
requests, takes the sequence counter's value, the counter wraps on by 1, and its record is offered to the Run Queue (R137
to R139, R143, R144). -/
def Obligations.CloseFiltersNumbersAndOffers : Prop :=
  ∀ (e : TrackEnv) (i : Fin 8) (m : TrackedMeasure) (cause : CloseCause) (r : OpenRun) (t : Tracks),
    let length := (r.last - r.start + 1).toNat
    let idle : Tracks := { t with tracker := { t.tracker with runs := t.tracker.runs.set i none } }
    (r.cls = 1 → length < m.m → closeRun e i m cause r t = { idle with
      tracker := { idle.tracker with spikes := if t.tracker.spikes < 65535 then t.tracker.spikes + 1
                                               else t.tracker.spikes } }) ∧
    (¬ (r.cls = 1 ∧ length < m.m) →
      let asked := peakRequests e i cause (r, idle)
      let record : RunRecord :=
        { sequence := t.tracker.sequence, measure := i.val + 1, cls := r.cls, negative := r.negative, start := r.start,
          last := r.last, peakPost := r.peakPost, length, peak := r.peak, cause, hadMissing := r.hadMissing,
          left := asked.1.left, right := asked.1.right }
      closeRun e i m cause r t = { asked.2 with
        tracker := offerRun e.held record { idle.tracker with sequence := t.tracker.sequence + 1 } })

/-- A kept run joins the tail of a queue of fewer than 32; a queue of 32 gives up the oldest run of lower class that is not
held for a transaction, or the offered run is discarded, and either way runs-lost rises by 1 (R146, R150). -/
def Obligations.RunQueueEvictsOldestLowerClass : Prop :=
  ∀ (held : Nat) (r : RunRecord) (t : Tracker),
    let lost := if t.runsLost < 65535 then t.runsLost + 1 else t.runsLost
    (t.queue.length < 32 → offerRun held r t = { t with queue := t.queue ++ [r] }) ∧
    (t.queue.length = 32 →
      (∀ (k : Nat) (x : RunRecord), held ≤ k → t.queue[k]? = some x → x.cls < r.cls →
        (∀ (j : Nat) (y : RunRecord), held ≤ j → j < k → t.queue[j]? = some y → r.cls ≤ y.cls) →
        offerRun held r t = { t with queue := t.queue.take k ++ t.queue.drop (k + 1) ++ [r], runsLost := lost }) ∧
      ((∀ (k : Nat) (x : RunRecord), held ≤ k → t.queue[k]? = some x → r.cls ≤ x.cls) →
        offerRun held r t = { t with runsLost := lost }))

/-! ### Marking -/

/-- The nozzles a run asks, LEFT before RIGHT, each answer written into the run: at a rise of class those fitted, START
anchored, serving the measure, whose minimum class the run reaches and had not before, for the start post; at a close by
GAP or TRUNCATED those fitted, PEAK anchored, serving the measure, whose minimum class the run reaches, for the peak post;
at a FORCED close none (R140, R142, R143, R154). -/
def Obligations.RunAsksItsNozzlesAtTheAnchor : Prop :=
  ∀ (e : TrackEnv) (i : Fin 8) (before : Nat) (r : OpenRun) (t : Tracks),
    let ask : Nozzle → (NozzleConfig → Bool) → Int → OpenRun × Tracks → OpenRun × Tracks := fun x due target p =>
      match e.cfg.nozzle x with
      | none => p
      | some n =>
        if due n = true then
          let answer := requestMark e x target p.2
          (match x with
            | .left => { p.1 with left := answer.1 }
            | .right => { p.1 with right := answer.1 }, answer.2)
        else p
    let start : NozzleConfig → Bool := fun n =>
      n.anchor == .start && n.mask.getLsbD i && decide (before < n.minClass) && decide (n.minClass ≤ r.cls)
    let peak : NozzleConfig → Bool := fun n => n.anchor == .peak && n.mask.getLsbD i && decide (n.minClass ≤ r.cls)
    startRequests e i before (r, t) = ask .right start r.start (ask .left start r.start (r, t)) ∧
    peakRequests e i .gap (r, t) = ask .right peak r.peakPost (ask .left peak r.peakPost (r, t)) ∧
    peakRequests e i .truncated (r, t) = ask .right peak r.peakPost (ask .left peak r.peakPost (r, t)) ∧
    peakRequests e i .forced (r, t) = (r, t)

/-- A marking request of a fitted nozzle is answered by the first condition of R155 that holds: due post not above the
current one TOO_LATE, same nozzle and due post queued MERGED, due post above the highest index or 16 actions queued
DROPPED, else SCHEDULED and inserted; TOO_LATE and DROPPED raise MARK (R155, R156). A nozzle not fitted gets none. The
insertion keeps the queue's order, of due posts and LEFT before RIGHT, and adds that action alone (R157). -/
def Obligations.MarkingRequestIsAnsweredInOrder : Prop :=
  (∀ (e : TrackEnv) (x : Nozzle) (target : Int) (t : Tracks),
    (e.cfg.nozzle x = none → requestMark e x target t = (.none, t)) ∧
    ∀ n, e.cfg.nozzle x = some n →
      let due : Int := target + e.cfg.carOffset + n.offset
      let raised : Tracks := { t with alert := { t.alert with edges := t.alert.edges ||| 4#4 } }
      let same := ∃ a ∈ t.marker.queue, a.nozzle = x ∧ (a.due : Int) = due
      let full := 16 ≤ t.marker.queue.length
      (due ≤ e.current → requestMark e x target t = (.tooLate, raised)) ∧
      (e.current < due → same → requestMark e x target t = (.merged, t)) ∧
      (e.current < due → ¬ same → 2147483647 < due → requestMark e x target t = (.dropped, raised)) ∧
      (e.current < due → ¬ same → due ≤ 2147483647 → full → requestMark e x target t = (.dropped, raised)) ∧
      (e.current < due → ¬ same → due ≤ 2147483647 → ¬ full → requestMark e x target t =
        (.scheduled, { t with marker := { t.marker with
          queue := insertAction { due := due.toNat, nozzle := x } t.marker.queue } }))) ∧
  ∀ (a : MarkAction) (queue : List MarkAction),
    let before : MarkAction → MarkAction → Prop := fun x y =>
      x.due < y.due ∨ (x.due = y.due ∧ x.nozzle = .left ∧ y.nozzle = .right)
    queue.Pairwise before → a ∉ queue →
    (insertAction a queue).Pairwise before ∧ List.Perm (insertAction a queue) (a :: queue)

/-! ### Alerts -/

/-- A source is eligible exactly when it is pending, not masked, and the present mode allows it: in normal mode its number
is below that of every source in service, in special-mask mode it is not itself in service. ALERT is asserted exactly when
a source is eligible. The pending set is the raised edges 0 to 3 and the conditions of the levels 4 to 7 (R167 to R169,
R172, R173). -/
def Obligations.AlertIsAssertedWhenASourceIsEligible : Prop :=
  ∀ s : State,
    let pending : Fin 8 → Prop := fun i =>
      match i with
      | 0 => s.alert.edges.getLsbD 0 = true
      | 1 => s.alert.edges.getLsbD 1 = true
      | 2 => s.alert.edges.getLsbD 2 = true
      | 3 => s.alert.edges.getLsbD 3 = true
      | 4 => (s.control.station = .joining ∨ s.control.station = .running) ∧
               ∃ age, s.sensor.age = some age ∧ 1000 * s.cfg.staleMs < age
      | 5 => ∃ c, s.control.config = some c ∧ c.watermark ≤ s.results.fifo.length
      | 6 => s.tracker.queue ≠ []
      | 7 => s.bus.mode = .listenOnly ∨ s.bus.duplicate = true ∨ s.odo.tachFault = true
    let served : Fin 8 → Prop := fun i => s.alert.inService.getLsbD i = true
    let allowed : Fin 8 → Prop := fun i =>
      if s.alert.specialMask = true then ¬ served i else ∀ j, served j → i < j
    let eligible : Fin 8 → Prop := fun i => pending i ∧ s.alert.mask.getLsbD i = false ∧ allowed i
    (∀ i : Fin 8, s.pendingSet.getLsbD i = true ↔ pending i) ∧
    (∀ i : Fin 8, s.eligibleSet.getLsbD i = true ↔ eligible i) ∧
    (s.resetn = true → (s.alertLine = true ↔ ∃ i, eligible i))

/-- ACKNOWLEDGE outside SELF_TEST and FAULT answers OK with the eligible source of lowest number, which joins the in-service
set unless auto-end is on and, being an edge, leaves the pending set; with none eligible it answers 8 and changes nothing
(R174, R175). -/
def Obligations.AcknowledgeTakesTheMostUrgent : Prop :=
  ∀ s : State, s.takesTransactions → s.control.station ≠ .selfTest → s.control.station ≠ .fault →
    ((∀ i : Fin 8, s.eligibleSet.getLsbD i = false) →
      exec .acknowledge s = .next (s.answering [48] [0, 8] .plain none)) ∧
    ∀ i : Fin 8, s.eligibleSet.getLsbD i = true → (∀ j < i, s.eligibleSet.getLsbD j = false) →
      exec .acknowledge s = .next (State.answering { s with
        alert := { s.alert with
          edges := s.alert.edges &&& ~~~(1#4 <<< i.val)
          inService := if s.alert.autoEnd then s.alert.inService else s.alert.inService ||| (1#8 <<< i.val) } }
        [48] [0, BitVec.ofNat 8 i] .plain none)

/-- The other alert commands outside SELF_TEST and FAULT. END_SERVICE: a byte 0 to 7 ends that source when it is in service,
255 the source in service of lowest number, in special-mask mode the lowest that is not masked; the response names it, or
is 8 when nothing qualifies (R176). SET_MASK replaces the whole mask (R170), SET_MODES sets special-mask mode from bit 0 and
auto-end mode from bit 1 (R177), CLEAR_PENDING takes the edge it names out of the pending set and does nothing to a level
source (R178). A byte that names no source is BAD_COMMAND (R174). Nothing else changes. -/
def Obligations.EndServiceMaskModesAndClear : Prop :=
  (∀ (which : Byte) (s : State), s.takesTransactions → s.control.station ≠ .selfTest → s.control.station ≠ .fault →
    let qualifies : Fin 8 → Prop := fun i =>
      s.alert.inService.getLsbD i = true ∧
        (which.toNat = i.val ∨ (which = 255#8 ∧ (s.alert.specialMask = true → s.alert.mask.getLsbD i = false)))
    (8 ≤ which.toNat → which ≠ 255#8 →
      exec (.endService [which]) s = .next (s.answering [49, which] [7] .plain none)) ∧
    ((which.toNat < 8 ∨ which = 255#8) → (∀ i, ¬ qualifies i) →
      exec (.endService [which]) s = .next (s.answering [49, which] [0, 8] .plain none)) ∧
    ∀ i, qualifies i → (∀ j < i, ¬ qualifies j) →
      exec (.endService [which]) s = .next (State.answering
        { s with alert := { s.alert with inService := s.alert.inService &&& ~~~(1#8 <<< i.val) } }
        [49, which] [0, BitVec.ofNat 8 i] .plain none)) ∧
  ∀ (b : Byte) (s : State), s.takesTransactions → s.control.station ≠ .selfTest → s.control.station ≠ .fault →
    exec (.setMask [b]) s = .next (State.answering { s with alert := { s.alert with mask := b } }
      [50, b] [0] .plain none) ∧
    exec (.setModes [b]) s = .next (State.answering
      { s with alert := { s.alert with specialMask := b.getLsbD 0, autoEnd := b.getLsbD 1 } } [51, b] [0] .plain none) ∧
    (b.toNat < 8 → exec (.clearPending [b]) s = .next (State.answering
      { s with alert := { s.alert with edges := s.alert.edges &&& ~~~(1#4 <<< b.toNat) } } [52, b] [0] .plain none)) ∧
    (8 ≤ b.toNat → exec (.clearPending [b]) s = .next (s.answering [52, b] [7] .plain none))

/-! ### Configuration and station states -/

/-- A block is refused for CHECK when its check does not match; else the cause is the first of the groups Identity,
Odometry, Plan, Tracking, Marking, in block order, that holds a field R186 refuses; else it is accepted (R185, R186,
R189). -/
def Obligations.BlockIsJudgedByItsFirstRefusedGroup : Prop :=
  ∀ b : List Byte, b.length = 183 →
    let at' : Nat → Nat := fun i => (b.getD i 0).toNat
    let own := at' 0
    let check := (b.drop 181) = be16 (crcBytes (b.take 181))
    let identity := own ≤ 7
    let odometry := (at' 2 ≠ 0 ∨ at' 3 ≠ 0) ∧ at' 4 ≤ 1
    let chord : Nat → Prop := fun i =>
      let f := at' (29 + 7 * i)
      let r := at' (30 + 7 * i)
      f ≤ 7 ∧ r ≤ 7 ∧ f ≠ r ∧ f ≠ own ∧ r ≠ own ∧ at' (33 + 7 * i) ≤ 2
    let twist : Nat → Prop := fun i =>
      at' (58 + 2 * i) = 1 ∨ (at' (58 + 2 * i) = 0 ∧ at' (59 + 2 * i) ≤ 7 ∧ at' (59 + 2 * i) ≠ own)
    let plan := at' 28 ≤ 4 ∧ (∀ i < at' 28, chord i) ∧ at' 57 ≤ 2 ∧ ∀ i < at' 57, twist i
    let measure : Nat → Prop := fun i =>
      let code := at' (63 + 13 * i)
      code = 0 ∨ code = 1 ∨ (2 ≤ code ∧ code ≤ 5 ∧ code - 1 ≤ at' 28) ∨ (6 ≤ code ∧ code ≤ 7 ∧ code - 5 ≤ at' 57)
    let tracking := at' 62 ≤ 8 ∧ ∀ i < at' 62, measure i
    let nozzle : Nat → Prop := fun j => at' j = 0 ∨ (at' j = 1 ∧ at' (j + 3) ≤ 1)
    let marking := nozzle 167 ∧ nozzle 173
    (¬ check → judgeBlock b = .check) ∧
    (check → ¬ identity → judgeBlock b = .identity) ∧
    (check → identity → ¬ odometry → judgeBlock b = .odometry) ∧
    (check → identity → odometry → ¬ plan → judgeBlock b = .plan) ∧
    (check → identity → odometry → plan → ¬ tracking → judgeBlock b = .tracking) ∧
    (check → identity → odometry → plan → tracking → ¬ marking → judgeBlock b = .marking) ∧
    (check → identity → odometry → plan → tracking → marking → judgeBlock b = .none)

/-- The effective values of an accepted block: each clamped field of R185 and of a nozzle entry (R154) as its table gives,
the lists as long as their counts, auto-end from bit 0 of byte 179, and in the needed set exactly the own number and the
stations the plan's chords and PARTNER twists name (R70, R90, R91, R187), and the calibration constants as they stand; and
the effective fields of a tracked measure, its code as R185 names it, its limits clamped in the order of R128, with the
bounds that then hold. -/
def Obligations.EffectiveValuesAreClamped : Prop :=
  (∀ b : List Byte, b.length = 183 → judgeBlock b = .none →
    let at' : Nat → Nat := fun i => (b.getD i 0).toNat
    let clamped : Nat → Nat → Nat → Nat := fun lo hi n => max lo (min hi n)
    let constants : Nat → Calibration := fun j =>
      { offset := (b.getD j 0 ++ b.getD (j + 1) 0).toInt, gain := 256 * at' (j + 2) + at' (j + 3) };
    let c := effective b
    (c.station.val = at' 0 ∧ c.carOffset = at' 1 ∧ c.edgeDistance = 256 * at' 2 + at' 3 ∧
      (c.inverted = true ↔ at' 4 = 1) ∧ c.tachLossSteps = clamped 1 255 (at' 5) ∧ c.depth = clamped 4 16 (at' 6) ∧
      c.staleMs = clamped 1 255 (at' 7) ∧ c.watermark = clamped 1 64 (at' 180) ∧ (c.autoEnd = true ↔ at' 179 % 2 = 1)) ∧
    (c.chords.length = at' 28 ∧ c.twists.length = at' 57 ∧ c.measures.length = at' 62) ∧
    c.calibration = { gL := constants 8, gR := constants 12, zL := constants 16, zR := constants 20,
                      rho := constants 24 } ∧
    (∀ i < at' 62, c.measures[i]? = some (measureField b i)) ∧
    (∀ (i : Nat) (k : Chord), c.chords[i]? = some k →
      k.front.val = at' (29 + 7 * i) ∧ k.rear.val = at' (30 + 7 * i) ∧ k.a = clamped 1 255 (at' (31 + 7 * i)) ∧
      k.b = clamped 1 255 (at' (32 + 7 * i)) ∧
      k.quantity = (match at' (33 + 7 * i) with
        | 0 => .alignment
        | 1 => .topLeft
        | _ => .topRight) ∧
      k.k = clamped 1 65535 (256 * at' (34 + 7 * i) + at' (35 + 7 * i))) ∧
    (∀ (i : Nat) (k : Twist), c.twists[i]? = some k →
      (at' (58 + 2 * i) = 0 → ∃ p : Fin 8, k = .partner p ∧ p.val = at' (59 + 2 * i)) ∧
      (at' (58 + 2 * i) = 1 → k = .history (clamped 1 255 (at' (59 + 2 * i))))) ∧
    (∀ x : Nozzle, let j := match x with
        | .left => 167
        | .right => 173
      (at' j = 0 → c.nozzle x = none) ∧
      (at' j = 1 → ∃ n, c.nozzle x = some n ∧ n.offset = clamped 1 255 (at' (j + 1)) ∧
        n.minClass = clamped 1 3 (at' (j + 2)) ∧ (n.anchor = .start ↔ at' (j + 3) = 0) ∧
        n.pulse = clamped 1 255 (at' (j + 4)) ∧
        ∀ i : Fin 8, n.mask.getLsbD i = true ↔ (at' (j + 5)).testBit i = true ∧ i.val < at' 62)) ∧
    ∀ i : Fin 8, c.needed.getLsbD i = true ↔
      i = c.station ∨ (∃ k ∈ c.chords, k.front = i ∨ k.rear = i) ∨ Twist.partner i ∈ c.twists) ∧
  ∀ (b : List Byte) (i : Nat),
    let at' : Nat → Nat := fun j => (b.getD (63 + 13 * i + j) 0).toNat
    let m := measureField b i
    (at' 0 = 0 → m.measure = .gdev) ∧ (at' 0 = 1 → m.measure = .cant) ∧
    (∀ j : Fin 4, at' 0 = j + 2 → m.measure = .chord j) ∧ (∀ j : Fin 2, at' 0 = j + 6 → m.measure = .twist j) ∧
    m.nominal = (b.getD (63 + 13 * i + 1) 0 ++ b.getD (63 + 13 * i + 2) 0).toInt ∧
    m.l1 = min 32767 (256 * at' 3 + at' 4) ∧ m.l2 = max (min 32767 (256 * at' 5 + at' 6)) m.l1 ∧
    m.l3 = max (min 32767 (256 * at' 7 + at' 8)) m.l2 ∧ m.h = min m.l1 (256 * at' 9 + at' 10) ∧
    m.g = min 15 (at' 11) ∧ m.m = max 1 (at' 12) ∧
    m.l1 ≤ m.l2 ∧ m.l2 ≤ m.l3 ∧ m.l3 ≤ 32767 ∧ m.h ≤ m.l1 ∧ m.g ≤ 15 ∧ 1 ≤ m.m ∧ m.m ≤ 255

/-- LOAD_CONFIG by the station state, for a complete block: LOCKED in CONFIGURED, JOINING and RUNNING without a look at the
block; in UNCONFIGURED an accepted block is stored with its effective values, the lock is set, auto-end set, the refusal
cause NONE and the state CONFIGURED, and a refused one is answered BAD_CONFIG and sets the refusal cause alone. With fewer
than 183 bytes no command is taken and no window cancelled (R188, R190, R196, R202; log 5). -/
def Obligations.LoadConfigStoresOrRefuses : Prop :=
  ∀ (b : List Byte) (s : State), s.takesTransactions →
    (b.length < 183 → exec (.loadConfig b) s = .next (s.answering (16 :: b) [] .plain s.port.window)) ∧
    (b.length = 183 →
      ((s.control.station = .configured ∨ s.control.station = .joining ∨ s.control.station = .running) →
        exec (.loadConfig b) s = .next (s.answering (16 :: b) [4] .plain none)) ∧
      (s.control.station = .unconfigured → judgeBlock b ≠ .none → exec (.loadConfig b) s = .next (State.answering
        { s with control := { s.control with refusal := judgeBlock b } } (16 :: b) [3] .plain none)) ∧
      (s.control.station = .unconfigured → judgeBlock b = .none → exec (.loadConfig b) s = .next (State.answering
        { s with
          control := { s.control with station := .configured, block := some b, config := some (effective b),
                                      lock := true, refusal := .none }
          alert := { s.alert with autoEnd := (b.getD 179 0).getLsbD 0 } } (16 :: b) [0] .plain none)))

/-- ARM in CONFIGURED answers OK, brings every block to its ARM column and the station to JOINING; in UNCONFIGURED, JOINING
and RUNNING it is WRONG_STATE with no effect (R7, R26, R48, R66, R88, R124, R153, R165, R180, R191). -/
def Obligations.ArmStartsAFreshRun : Prop :=
  ∀ s : State, s.takesTransactions →
    ((s.control.station = .unconfigured ∨ s.control.station = .joining ∨ s.control.station = .running) →
      exec .arm s = .next (s.answering [17] [2] .plain none)) ∧
    (s.control.station = .configured → exec .arm s = .next (State.answering { s with
      odo := { s.odo with acc := 0, tachFault := false, lastLatch := none }
      pacer := { currentPost := none, markConflict := 0 }
      bus := { mode := .active, slot := none, queue := [], txErrors := 0, duplicate := false, crcErrors := 0,
               samplesShed := 0, duplicateStations := 0, heardIdle := s.bus.heardIdle,
               sending := s.bus.sending.map fun x => { x with owned := false }, aborted := s.bus.aborted }
      sensor := { s.sensor with latest := none, age := some 0, frameErrors := 0 }
      window := { rows := [], late := Vector.replicate 8 0, duplicateSamples := 0, missed := Vector.replicate 8 0 }
      results := { fifo := [], tally := 0, lost := 0 }
      ring := []
      tracker := { runs := Vector.replicate 8 none, sequence := 0, spikes := 0, runsLost := 0, queue := [] }
      marker := { queue := [], left := .closed, right := .closed, missed := 0 }
      alert := { s.alert with edges := 0, inService := 0 }
      control := { s.control with station := .joining } } [17] [0] .plain none))

/-- DISARM and RESYNC in JOINING and RUNNING answer OK and apply their columns: every open run of a configured measure is
closed with cause FORCED, in ascending index, each whole as any close (spike filter, number, Run Queue) and without a
marking request, after which the measures are IDLE; A is 0 with no current post, the tach-fault flag clear and no last
latch; slot, sample queue, rows and marker queue are empty, the valves closed; and the state is CONFIGURED, or JOINING with
the ring emptied. FIFO, sensor set, other counters, modes and masks stay. No run is held at the closes: an earlier
transaction has ended (log 4). In UNCONFIGURED and CONFIGURED both are WRONG_STATE with no effect (R7, R26, R48, R66, R87,
R88, R124, R140, R153, R165, R180, R192, R193). -/
def Obligations.DisarmAndResyncLeaveTheRun : Prop :=
  ∀ s : State, s.takesTransactions →
    ((s.control.station = .unconfigured ∨ s.control.station = .configured) →
      exec .disarm s = .next (s.answering [18] [2] .plain none) ∧
      exec .resync s = .next (s.answering [19] [2] .plain none)) ∧
    ((s.control.station = .joining ∨ s.control.station = .running) →
      let e : TrackEnv := { cfg := s.cfg, current := s.post, held := 0 }
      let forced : Tracks := (([0, 1, 2, 3, 4, 5, 6, 7] : List (Fin 8)).zip s.cfg.measures).foldl
        (fun t im =>
          match t.tracker.runs[im.1] with
          | none => t
          | some r => closeRun e im.1 im.2 .forced r t)
        { tracker := s.tracker, marker := s.marker, alert := s.alert }
      let left : State := { s with
        odo := { s.odo with acc := 0, tachFault := false, lastLatch := none }
        pacer := { s.pacer with currentPost := none }
        bus := { s.bus with slot := none, queue := [], sending := s.bus.sending.map fun x => { x with owned := false } }
        window := { s.window with rows := [] }
        tracker := forced.tracker
        marker := { s.marker with queue := [], left := .closed, right := .closed } }
      exec .disarm s = .next (State.answering { left with
        control := { s.control with station := .configured } } [18] [0] .plain none) ∧
      exec .resync s = .next (State.answering { left with
        ring := [], control := { s.control with station := .joining } } [19] [0] .plain none) ∧
      (∀ (i : Fin 8) m, s.cfg.measures[i.val]? = some m → forced.tracker.runs[i] = none) ∧
      ∀ i : Fin 8, s.cfg.measures.length ≤ i → forced.tracker.runs[i] = s.tracker.runs[i])

/-! ### The recorder port -/

/-- The bytes of R198 name its commands, each with its number of parameters. The station state decides an answer before
anything else: in SELF_TEST every command of R198 but IDENTIFY is BUSY, in FAULT every one but IDENTIFY and READ_STATUS is
WRONG_STATE, with no effect beyond the cancellation of the history window, which only HISTORY_WINDOW and HISTORY_READ keep;
a byte that names no command is BAD_COMMAND in every state and cancels the window too (R183, R184, R197, R198, R202). With
fewer parameters no command is taken: the bytes received are kept, nothing is sent and the window stays; bytes after the
parameters are disregarded (R196; log 5). In a select that began before RESETN rose nothing is taken (R195). FAULT is left
only by power-on reset (R184, R194). -/
def Obligations.StationStateDecidesTheAnswer : Prop :=
  let listed : List (Byte × Nat) := [(1, 0), (2, 0), (16, 183), (17, 0), (18, 0), (19, 0), (32, 1), (33, 1), (48, 0),
    (49, 1), (50, 1), (51, 1), (52, 1), (64, 8), (65, 1)]
  ((∀ (c : Instr) (bytes : List Byte), commandBytes c = some bytes →
      ∃ x ∈ listed, bytes.head? = some x.1 ∧
        (WellFormed c = true → commandOf bytes = some c ∧ bytes.length = 1 + x.2)) ∧
    (∀ x ∈ listed, paramCount x.1 = x.2) ∧
    ∀ (code : Byte) (params : List Byte), code ∉ listed.map Prod.fst →
      commandOf (code :: params) = some (.unknownCommand code)) ∧
  (∀ (c : Instr) (bytes : List Byte) (s : State), s.takesTransactions → WellFormed c = true →
    commandBytes c = some bytes → c ≠ .identify →
    (s.control.station = .selfTest →
      exec c s = .next (s.answering bytes [1] .plain (windowKept c s.port.window))) ∧
    (s.control.station = .fault → c ≠ .readStatus →
      exec c s = .next (s.answering bytes [2] .plain (windowKept c s.port.window)))) ∧
  (∀ (code : Byte) (s : State), s.takesTransactions → code ∉ listed.map Prod.fst →
    exec (.unknownCommand code) s = .next (s.answering [code] [7] .plain none)) ∧
  (∀ (c : Instr) (code : Byte) (params : List Byte) (s : State), commandBytes c = some (code :: params) →
    (s.takesTransactions → params.length < paramCount code →
      exec c s = .next (s.answering (code :: params) [] .plain s.port.window)) ∧
    ∀ d, paramCount code ≤ params.length → commandOf (code :: params.take (paramCount code)) = some d →
      exec c s = exec d s) ∧
  (∀ (c : Instr) (s : State), (commandBytes c ≠ none ∨ ∃ code, c = .unknownCommand code) →
    s.port.selected = true → s.port.transaction = none → exec c s = .next s) ∧
  ∀ (c : Instr) (s t : State), s.Inv → s.resetn = true → s.control.station = .fault → exec c s = .next t →
    t.control.station = .fault

/-- IDENTIFY is answered OK in every station state with six bytes, part code 1046, revision 1, the self-test result with bit
n for memory n (0 throughout SELF_TEST), the state's code, and the station number while the lock is set, else 255; it
changes nothing else (R199). The three high bits of the result byte are free (log 7), and that the part code has its high
byte first is the model's reading (log 27). -/
def Obligations.IdentifyAnswersSixBytes : Prop :=
  ∀ s : State, s.takesTransactions → ∃ result : Byte,
    (s.control.station = .selfTest → result = 0) ∧
    (s.control.station ≠ .selfTest → ∀ i < 5, result.getLsbD i = s.control.selfTest.getLsbD i) ∧
    let code : Byte := match s.control.station with
      | .selfTest => 0
      | .fault => 1
      | .unconfigured => 2
      | .configured => 3
      | .joining => 4
      | .running => 5
    exec .identify s = .next (State.answering { s with draws := s.draws + 1 } [1]
      [0, 0x04, 0x16, 1, result, code, if s.control.lock = true then BitVec.ofNat 8 s.cfg.station else 255] .plain none)

/-- READ_STATUS is answered OK with 258 bytes in every station state but SELF_TEST and changes nothing. `fields` gives
each whole field of the table of R200 as its first byte, its size and its number (modulo its width; signed ones in two's
complement), `bits` each single bit as its byte, its place and its value; the check over bytes 0 to 255 ends it. The bits
and fields R200 does not state are free (log 7 and 8). -/
def Obligations.ReadStatusShowsTheSnapshot : Prop :=
  ∀ s : State, s.takesTransactions → s.control.station ≠ .selfTest → ∃ d : List Byte,
    exec .readStatus s = .next (State.answering { s with draws := s.draws + 1 } [2] (0 :: d) .plain none) ∧
    d.length = 258 ∧
    let u16 : Nat → Nat := fun n => n % 65536
    let u32 : Nat → Nat := fun n => n % 4294967296
    let s32 : Int → Nat := fun x => (x % 4294967296).toNat
    let raw : (Channels Int → Int) → Nat := fun channel =>
      match s.sensor.latest with
      | none => 0
      | some x => (channel x.raw % 65536).toNat
    let state : Nat := match s.control.station with
      | .selfTest => 0
      | .fault => 1
      | .unconfigured => 2
      | .configured => 3
      | .joining => 4
      | .running => 5
    let cause : Nat := match s.control.refusal with
      | .none => 0
      | .check => 1
      | .identity => 2
      | .odometry => 3
      | .plan => 4
      | .tracking => 5
      | .marking => 6
    let fields : List (Nat × Nat × Nat) :=
      [(0, 1, state), (1, 1, cause), (2, 4, u32 (s.pacer.currentPost.getD 0)), (6, 4, s32 s.odo.acc),
       (11, 2, u16 s.pacer.markConflict), (14, 1, s.bus.txErrors % 256), (15, 1, s.bus.queue.length % 256),
       (16, 2, u16 s.bus.crcErrors), (18, 2, u16 s.bus.samplesShed), (20, 2, u16 s.bus.duplicateStations),
       (23, 2, raw Channels.gL), (25, 2, raw Channels.gR), (27, 2, raw Channels.zL), (29, 2, raw Channels.zR),
       (31, 2, raw Channels.rho), (37, 2, u16 s.sensor.frameErrors), (39, 1, s.cfg.depth % 256),
       (40, 1, s.window.rows.length % 256), (41, 4, u32 ((s.window.rows.head?.map Row.post).getD 0)),
       (61, 2, u16 s.window.duplicateSamples), (79, 1, s.results.fifo.length % 256), (80, 1, s.cfg.watermark % 256),
       (81, 1, s.results.tally % 256), (82, 2, u16 s.results.lost), (84, 2, u16 s.ring.length),
       (86, 4, u32 ((s.ring.head?.map GeometryRecord.carPost).getD 0)),
       (90, 4, u32 ((s.ring.getLast?.map GeometryRecord.carPost).getD 0)), (94, 1, s.tracker.queue.length % 256),
       (95, 2, s.tracker.sequence.toNat), (97, 2, u16 s.tracker.spikes), (99, 2, u16 s.tracker.runsLost),
       (221, 1, s.marker.queue.length % 256), (223, 4, u32 ((s.marker.queue.head?.map MarkAction.due).getD 0)),
       (227, 4, u32 s.marker.left.remaining), (231, 4, u32 s.marker.right.remaining), (235, 2, u16 s.marker.missed),
       (249, 1, s.pendingSet.toNat), (250, 1, s.alert.mask.toNat), (251, 1, s.alert.inService.toNat),
       (252, 1, s.eligibleSet.toNat), (254, 1, s.cfg.staleMs % 256), (255, 1, s.cfg.tachLossSteps % 256),
       (256, 2, (crcBytes (d.take 256)).toNat)]
    let bits : List (Nat × Nat × Bool) :=
      [(10, 0, decide (s.odo.acc < 0)), (10, 1, s.odo.tachFault), (13, 0, s.bus.mode == .listenOnly),
       (13, 1, s.bus.duplicate), (13, 2, s.bus.slot.isSome), (22, 0, s.sensor.latest.isSome),
       (22, 6, s.sensor.age.isNone), (222, 0, !s.marker.queue.isEmpty), (253, 0, s.alert.specialMask),
       (253, 1, s.alert.autoEnd), (253, 2, s.alertLine)]
    (∀ x ∈ fields, fieldAt d x.1 x.2.1 = x.2.2) ∧ (∀ x ∈ bits, (fieldAt d x.1 1).testBit x.2.1 = x.2.2) ∧
    (∀ x, s.sensor.latest = some x →
      ∀ y ∈ [(1, x.overRange.gL), (2, x.overRange.gR), (3, x.overRange.zL), (4, x.overRange.zR), (5, x.overRange.rho)],
        (fieldAt d 22 1).testBit y.1 = y.2) ∧
    (∀ age, s.sensor.age = some age → fieldAt d 33 4 = u32 age) ∧
    (∀ i : Fin 8, fieldAt d (45 + 2 * i) 2 = u16 s.window.late[i] ∧ fieldAt d (63 + 2 * i) 2 = u16 s.window.missed[i]) ∧
    (∀ (i : Fin 8) m, s.cfg.measures[i.val]? = some m →
      (fieldAt d (101 + 15 * i) 1).testBit 7 = (s.tracker.runs[i]).isSome ∧
      (s.tracker.runs[i] = none → fieldAt d (102 + 15 * i) 4 = 0) ∧
      (∀ r, s.tracker.runs[i] = some r →
        fieldAt d (101 + 15 * i) 1 % 4 = r.cls % 4 ∧ fieldAt d (102 + 15 * i) 4 = s32 r.start) ∧
      fieldAt d (106 + 15 * i) 2 = u16 m.l1 ∧ fieldAt d (108 + 15 * i) 2 = u16 m.l2 ∧
      fieldAt d (110 + 15 * i) 2 = u16 m.l3 ∧ fieldAt d (112 + 15 * i) 2 = u16 m.h ∧
      fieldAt d (114 + 15 * i) 1 = m.g % 256 ∧ fieldAt d (115 + 15 * i) 1 = m.m % 256) ∧
    (∀ i : Fin 8, s.cfg.measures.length ≤ i → fieldAt d (101 + 15 * i) 15 = 0) ∧
    (∀ a rest, s.marker.queue = a :: rest → (fieldAt d 222 1).testBit 1 = decide (a.nozzle = .right)) ∧
    ∀ x : Nozzle, let j := match x with
        | .left => 237
        | .right => 243
      (s.control.config = none → fieldAt d j 6 = 0) ∧
      ∀ c, s.control.config = some c →
        (c.nozzle x = none → fieldAt d j 1 = 0) ∧
        ∀ n, c.nozzle x = some n → fieldAt d j 1 = 1 ∧ fieldAt d (j + 1) 1 = n.offset % 256 ∧
          fieldAt d (j + 2) 1 = n.minClass % 256 ∧ fieldAt d (j + 3) 1 = (if n.anchor = .start then 0 else 1) ∧
          fieldAt d (j + 4) 1 = n.pulse % 256 ∧ fieldAt d (j + 5) 1 = n.mask.toNat

/-- TAKE_RESULTS and TAKE_RUNS outside SELF_TEST and FAULT: EMPTY when nothing is held; else OK, a count byte c, the smaller
of the clamped n and the number held, and the c oldest in their wire forms, oldest first; nothing else changes (R118,
R148). -/
def Obligations.TakingSendsTheOldestFirst : Prop :=
  ∀ (n : Byte) (s : State), s.takesTransactions → s.control.station ≠ .selfTest → s.control.station ≠ .fault →
    let c : Nat → Nat := fun held => min (max 1 (min 8 n.toNat)) held
    (s.results.fifo = [] → exec (.takeResults [n]) s = .next (s.answering [32, n] [5] .plain none)) ∧
    (s.results.fifo ≠ [] → exec (.takeResults [n]) s = .next (s.answering [32, n]
      (0 :: BitVec.ofNat 8 (c s.results.fifo.length) ::
        (s.results.fifo.take (c s.results.fifo.length)).flatMap (recordBytes s.cfg.station))
      (.records (c s.results.fifo.length)) none)) ∧
    (s.tracker.queue = [] → exec (.takeRuns [n]) s = .next (s.answering [33, n] [5] .plain none)) ∧
    (s.tracker.queue ≠ [] → exec (.takeRuns [n]) s = .next (s.answering [33, n]
      (0 :: BitVec.ofNat 8 (c s.tracker.queue.length) ::
        (s.tracker.queue.take (c s.tracker.queue.length)).flatMap (runBytes s.cfg.station))
      (.runs (c s.tracker.queue.length)) none))

/-- RECORD_SHIFTED_OUT and RUN_SHIFTED_OUT while the transaction has records or runs left: the head leaves its store, one
fewer is left, and all bytes before those left are out; nothing else changes (R119, R149). DESELECT ends the transaction in
progress, takes RSEL high and changes nothing else: what the transaction has removed stays removed, what is only partly
shifted out stays in its store, the history window stays, and runs held for it, which are those not yet shifted out, are
held no longer (R119, R149, R150, R195, R196, R202). Bits on RDI make bytes in groups of eight, most significant first, an
incomplete one discarded; RDO is not driven while RSEL is high, and carries, most significant bit first, zeros while the
bytes of the command come in, then the response as far as it is determined, and zeros after its end once no entry of it is
left to look up (R195, R196, R203; log 29). -/
def Obligations.TransactionProgressAndEnd : Prop :=
  (∀ (t : Transaction) (left : Nat) (s : State), s.resetn = true → s.port.transaction = some t →
    (t.shifting = .records (left + 1) → exec .recordShiftedOut s = .next { s with
      results := { s.results with fifo := s.results.fifo.tail }
      port := { s.port with
        selected := true
        transaction := some { t with shifted := t.response.length - 40 * left, shifting := .records left } } }) ∧
    (t.shifting = .runs (left + 1) → s.heldRuns = left + 1 ∧ exec .runShiftedOut s = .next { s with
      tracker := { s.tracker with queue := s.tracker.queue.tail }
      port := { s.port with
        selected := true
        transaction := some { t with shifted := t.response.length - 28 * left, shifting := .runs left } } })) ∧
  (∀ s : State, s.resetn = true →
    exec .deselect s = .next { s with port := { s.port with selected := false, transaction := none } } ∧
    State.heldRuns { s with port := { s.port with selected := false, transaction := none } } = 0 ∧
    (s.port.selected = false → ∀ k, s.rdo k = none) ∧
    ∀ t, s.port.selected = true → s.port.transaction = some t → ∀ k j, j < 8 →
      (k < t.received.length → s.rdo (8 * k + j) = some false) ∧
      (t.response = [] → k ≤ paramCount (t.received.headD 0) → s.rdo (8 * k + j) = some false) ∧
      (∀ i byte, t.response[i]? = some byte → k = t.received.length + i →
        s.rdo (8 * k + j) = some (byte.getMsbD j)) ∧
      (t.response ≠ [] → (∀ left lookedUp, t.shifting = .entries left lookedUp → left ≤ lookedUp.toNat) →
        t.received.length + t.response.length ≤ k → s.rdo (8 * k + j) = some false)) ∧
  ∀ (bytes : List Byte) (rest : List Bool), rest.length < 8 →
    rdiBytes (bytes.flatMap (fun b => (List.range 8).map b.getMsbD) ++ rest) = bytes

/-- HISTORY_WINDOW in JOINING and RUNNING opens a window from start to end, or over the one post start when start is greater,
with the cursor at start, and answers OK; in UNCONFIGURED and CONFIGURED it is WRONG_STATE and opens none (R201). The
two track posts are in two's complement, start first; that each has its high byte first, here and in a GONE entry, is the
model's reading (log 27).
HISTORY_READ is WRONG_STATE with no window, END with the cursor past the end, else OK with a count of at most the posts
left. HISTORY_ENTRY_LOOKUP fixes the next entry as the ring is at that moment: kind byte 1 and the record of the cursor's
track post, or kind byte 2 and the track post when the ring holds none. HISTORY_ENTRY_SHIFTED_OUT then moves the cursor to
the next track post. None touches the ring or the FIFO (R123, R203, R204). -/
def Obligations.HistoryIsReadThroughTheWindow : Prop :=
  (∀ (a3 a2 a1 a0 b3 b2 b1 b0 n : Byte) (s : State), s.takesTransactions →
    s.control.station ≠ .selfTest → s.control.station ≠ .fault →
    let start : List Byte := [a3, a2, a1, a0]
    let stop : List Byte := [b3, b2, b1, b0]
    let first : Int := (a3 ++ a2 ++ a1 ++ a0).toInt
    let last : Int := (b3 ++ b2 ++ b1 ++ b0).toInt
    ((s.control.station = .joining ∨ s.control.station = .running) →
      exec (.historyWindow start stop) s = .next (s.answering (64 :: (start ++ stop)) [0] .plain
        (some { first, last := if last < first then first else last, cursor := first }))) ∧
    ((s.control.station = .unconfigured ∨ s.control.station = .configured) →
      exec (.historyWindow start stop) s = .next (s.answering (64 :: (start ++ stop)) [2] .plain s.port.window)) ∧
    (s.port.window = none → exec (.historyRead [n]) s = .next (s.answering [65, n] [2] .plain none)) ∧
    ∀ w, s.port.window = some w →
      (w.last < w.cursor → exec (.historyRead [n]) s = .next (s.answering [65, n] [6] .plain (some w))) ∧
      (w.cursor ≤ w.last →
        let c := min (max 1 (min 8 n.toNat)) (w.last - w.cursor + 1).toNat
        exec (.historyRead [n]) s =
          .next (s.answering [65, n] [0, BitVec.ofNat 8 c] (.entries c false) (some w)))) ∧
  ∀ (t : Transaction) (w : HistoryWindow) (left : Nat) (s : State), s.resetn = true →
    s.port.transaction = some t → s.port.window = some w →
    let sent : List Byte → Bool → Nat → HistoryWindow → State := fun bytes lookedUp left w =>
      { s with port :=
        { selected := true, window := some w,
          transaction := some { received := t.received, response := t.response ++ bytes, shifted := t.response.length,
                                shifting := .entries left lookedUp } } }
    (t.shifting = .entries (left + 1) false →
      (∀ g ∈ s.ring, g.trackPost = w.cursor → (s.ring.Pairwise fun x y => x.trackPost < y.trackPost) →
        exec .historyEntryLookup s = .next (sent (1 :: recordBytes s.cfg.station g) true (left + 1) w)) ∧
      ((∀ g ∈ s.ring, g.trackPost ≠ w.cursor) →
        exec .historyEntryLookup s = .next (sent (2 :: be32 (BitVec.ofInt 32 w.cursor)) true (left + 1) w))) ∧
    (t.shifting = .entries (left + 1) true →
      exec .historyEntryShiftedOut s = .next (sent [] false left { w with cursor := w.cursor + 1 }))

/-! ### Invariants -/

/-- The invariant holds right after power-on reset. -/
def Obligations.InvariantHoldsAtReset : Prop := State.reset.Inv

/-- Every step keeps the stores within their sizes, the counters within sixteen bits and every displacement value within its
range (R32, R37, R45, R50, R105, R113 to R116, R121, R146, R157). -/
def Obligations.StepKeepsSizesAndRanges : Prop :=
  (∀ s t : State, s.StoresOk → step s = .next t → t.StoresOk) ∧
  (∀ s t : State, s.CountersOk → step s = .next t → t.CountersOk) ∧
  ∀ s t : State, s.ValuesOk → step s = .next t → t.ValuesOk

/-- Every step keeps lock, configuration, self-test result and refusal cause going with the station state, and the sensor
receiver off exactly in SELF_TEST; and while the lock is set and RESETN stays high the lock, the block and all that is
formed from it stay (R52, R66, R182, R187, R189, R190). -/
def Obligations.StepKeepsLockAndConfiguration : Prop :=
  ∀ s t : State, s.Inv → step s = .next t → t.resetn = true →
    t.ControlOk ∧
    (s.resetn = true → s.control.lock = true →
      t.control.lock = true ∧ t.control.block = s.control.block ∧ t.control.config = s.control.config)

/-- Every step keeps A in its range and the current post going with RUNNING, the slot with the next index, the sample queue
young and in order, the frame in progress the one that is held, and none being sent while one is driven out
(R2, R8, R12, R31, R32, R33, R37, R38). -/
def Obligations.StepKeepsPacingAndBus : Prop :=
  ∀ s t : State, s.Inv → step s = .next t → t.resetn = true → t.PacingOk ∧ t.BusOk

/-- While the station stays JOINING or RUNNING and takes no RESYNC, its current post never falls; a command other than DISARM,
RESYNC and the reset line's never takes it away (R8). -/
def Obligations.CurrentPostNeverFalls : Prop :=
  ∀ (c : Instr) (s t : State), s.Inv → s.resetn = true → c ≠ .disarm → c ≠ .resync → c ≠ .powerOnReset →
    exec c s = .next t → ∀ n, s.pacer.currentPost = some n → ∃ k, t.pacer.currentPost = some k ∧ n ≤ k

/-- Every step keeps the window within W rows of the last W posts, in ascending order, with READY meaning exactly that the
needed set is present and the oldest row OPEN (R69, R71, R75, R80), and the ring's car posts strictly rising and its
records older than the window's rows (R80, R110, R121). -/
def Obligations.StepKeepsWindowAndRing : Prop :=
  ∀ s t : State, s.Inv → step s = .next t → t.resetn = true → t.WindowOk ∧ t.RingOk

/-- Every step keeps the marker queue in order and ahead of the current post, and valves and queue at rest outside JOINING
and RUNNING (R157, R159, R164). -/
def Obligations.StepKeepsTheMarkerQueue : Prop :=
  ∀ s t : State, s.Inv → step s = .next t → t.resetn = true → t.MarkerOk

/-- Every step keeps the bounds of open runs and of queued run records, among them a class of 1 to 3 and a peak of 1 to
65535 (R131, R136, R137, R144). -/
def Obligations.StepKeepsTheRuns : Prop :=
  ∀ s t : State, s.Inv → step s = .next t → t.resetn = true → t.TrackerOk

/-- Every step keeps a transaction within a select and within its response, the history window's cursor within its window,
the window within the run, and a transaction's remainder within its store (R118, R148, R150, R195, R201, R202). -/
def Obligations.StepKeepsTheRecorderPort : Prop :=
  ∀ s t : State, s.Inv → step s = .next t → t.resetn = true → t.PortOk
end

