-- ==== Sys2Proof/Laws/Arithmetic.lean ====
section
/-! SUPPORT. What the shared arithmetic of spec/00_scope.md can give: saturation, clamping, and sets of station
numbers. -/

namespace Sys2Proof.Machine

theorem addUpTo_one (top n : Nat) : addUpTo top n 1 = if n < top then n + 1 else n := by
  simp only [addUpTo]; split <;> omega

theorem addUpTo_le {top n k : Nat} (h : n ≤ top) : addUpTo top n k ≤ top := by simp only [addUpTo]; omega

theorem le_addUpTo (top n k : Nat) : n ≤ addUpTo top n k := by simp only [addUpTo]; omega

theorem addUpTo_zero (top n : Nat) : addUpTo top n 0 = n := by simp only [addUpTo]; omega

theorem addUpTo_addUpTo (top n k l : Nat) : addUpTo top (addUpTo top n k) l = addUpTo top n (k + l) := by
  simp only [addUpTo]; omega

theorem addSat16_one (n : Nat) : addSat16 n 1 = if n < 65535 then n + 1 else n := addUpTo_one 65535 n

theorem addSat16_le {n k : Nat} (h : n ≤ 65535) : addSat16 n k ≤ 65535 := addUpTo_le h

theorem le_addSat16 (n k : Nat) : n ≤ addSat16 n k := le_addUpTo 65535 n k

theorem clampAcc_bounds (x : Int) : -16320000 ≤ clampAcc x ∧ clampAcc x ≤ 256000 := by
  simp only [clampAcc, clamp]; omega

theorem clampDc_bounds (x : Int) : -32768 ≤ clampDc x ∧ clampDc x ≤ 32767 := by simp only [clampDc, clamp]; omega

/-- A clamped value in full: CLAMPED is set exactly when the clamp changed it. -/
theorem clampedValue_eq (x : Int) (f : Flags) : clampedValue x f =
    { dc := max (-32768) (min 32767 x),
      flags := { f with clamped := f.clamped || decide (x < -32768 ∨ 32767 < x) } } := by
  have : decide (clampDc x ≠ x) = decide (x < -32768 ∨ 32767 < x) := by
    apply decide_eq_decide.2; simp only [clampDc, clamp]; omega
  rw [clampedValue, this]; rfl

theorem fin_eight_cases (i : Fin 8) : i = 0 ∨ i = 1 ∨ i = 2 ∨ i = 3 ∨ i = 4 ∨ i = 5 ∨ i = 6 ∨ i = 7 := by omega

theorem mem_eight (i : Fin 8) : i ∈ eight := by revert i; decide

theorem eight_all (p : Fin 8 → Bool) : eight.all p = true ↔ ∀ i, p i = true :=
  List.all_eq_true.trans ⟨fun h i => h i (mem_eight i), fun h i _ => h i⟩

/-- The membership test of a set formed by `setWhere`. -/
theorem inSet_setWhere (p : Fin 8 → Bool) (i : Fin 8) : inSet (setWhere p) i = p i := by
  have get : ∀ a b c d e f g h : Bool, ∀ i : Fin 8,
      (BitVec.ofBoolListLE [a, b, c, d, e, f, g, h]).getLsbD i = #v[a, b, c, d, e, f, g, h][i] := by decide
  refine (get _ _ _ _ _ _ _ _ i).trans ?_
  obtain rfl | rfl | rfl | rfl | rfl | rfl | rfl | rfl := fin_eight_cases i <;> rfl

theorem tabulate_get {α : Type} (f : Fin 8 → α) (i : Fin 8) : (tabulate f)[i] = f i := by
  obtain rfl | rfl | rfl | rfl | rfl | rfl | rfl | rfl := fin_eight_cases i <;> rfl

end Sys2Proof.Machine
end

