-- ==== Sys2Proof/Laws/State.lean ====
section
/-! SUPPORT. What each update of the state leaves as it is: one lemma per update and field, all true by unfolding, so that
no proof unfolds a record update; and the guards that every command reads. -/

namespace Sys2Proof.Machine

/-- With RESETN high a command has its effect. -/
theorem State.powered_high {s : State} (h : s.resetn = true) (f : State → State) : s.powered f = f s := if_pos h

/-- With RESETN low a command has none. -/
theorem State.powered_low {s : State} (h : s.resetn = false) (f : State → State) : s.powered f = s :=
  if_neg (by simp [h])

/-- Pacing is active exactly in JOINING and RUNNING. -/
theorem State.armed_iff (s : State) :
    s.armed = true ↔ s.control.station = .joining ∨ s.control.station = .running := by
  simp [State.armed]

@[simp] theorem State.enterPost_currentPost (n : Nat) (s : State) :
    (s.enterPost n).pacer.currentPost = some n := rfl

@[simp] theorem State.enterPost_station (n : Nat) (s : State) : (s.enterPost n).control.station = .running := rfl

@[simp] theorem State.enterPost_post' (n : Nat) (s : State) : (s.enterPost n).post = n := rfl

@[simp] theorem State.enterPost_armed' (n : Nat) (s : State) : (s.enterPost n).armed = true := rfl

@[simp] theorem State.takeIndex_post' (n : Nat) (s : State) : (s.takeIndex n).post = n := rfl

@[simp] theorem State.takeIndex_armed' (n : Nat) (s : State) : (s.takeIndex n).armed = true := rfl

@[simp] theorem State.takeIndex_currentPost (n : Nat) (s : State) :
    (s.takeIndex n).pacer.currentPost = some n := rfl

@[simp] theorem State.respond_port_window (bytes : List Byte) (r : Reply) (s : State) :
    (s.respond bytes r).port.window = s.port.window := rfl

@[simp] theorem State.endTransaction_port_window (s : State) : s.endTransaction.port.window = s.port.window := rfl

@[simp] theorem State.endTransaction_port_selected (s : State) : s.endTransaction.port.selected = false := rfl

@[simp] theorem State.endTransaction_port_transaction (s : State) : s.endTransaction.port.transaction = none := rfl

@[simp] theorem State.withTransaction_port_selected (t : Transaction) (s : State) :
    (s.withTransaction t).port.selected = true := rfl

@[simp] theorem State.withTransaction_port_transaction (t : Transaction) (s : State) :
    (s.withTransaction t).port.transaction = some t := rfl

@[simp] theorem State.withTransaction_port_window (t : Transaction) (s : State) :
    (s.withTransaction t).port.window = s.port.window := rfl

@[simp] theorem State.cancelWindow_port_window (s : State) : s.cancelWindow.port.window = none := rfl


/-! ### `State.withFlow` -/

@[simp] theorem State.withFlow_resetn (f : Flow) (s : State) : (s.withFlow f).resetn = s.resetn := rfl
@[simp] theorem State.withFlow_timer (f : Flow) (s : State) : (s.withFlow f).timer = s.timer := rfl
@[simp] theorem State.withFlow_odo (f : Flow) (s : State) : (s.withFlow f).odo = s.odo := rfl
@[simp] theorem State.withFlow_pacer (f : Flow) (s : State) : (s.withFlow f).pacer = s.pacer := rfl
@[simp] theorem State.withFlow_bus (f : Flow) (s : State) : (s.withFlow f).bus = s.bus := rfl
@[simp] theorem State.withFlow_sensor (f : Flow) (s : State) : (s.withFlow f).sensor = s.sensor := rfl
@[simp] theorem State.withFlow_control (f : Flow) (s : State) : (s.withFlow f).control = s.control := rfl
@[simp] theorem State.withFlow_port (f : Flow) (s : State) : (s.withFlow f).port = s.port := rfl
@[simp] theorem State.withFlow_draws (f : Flow) (s : State) : (s.withFlow f).draws = s.draws := rfl
@[simp] theorem State.withFlow_pending (f : Flow) (s : State) : (s.withFlow f).pending = s.pending := rfl
@[simp] theorem State.withFlow_cfg (f : Flow) (s : State) : (s.withFlow f).cfg = s.cfg := rfl
@[simp] theorem State.withFlow_armed (f : Flow) (s : State) : (s.withFlow f).armed = s.armed := rfl
@[simp] theorem State.withFlow_post (f : Flow) (s : State) : (s.withFlow f).post = s.post := rfl

/-! ### `State.settleRows` -/

@[simp] theorem State.settleRows_resetn (s : State) : (s.settleRows).resetn = s.resetn := rfl
@[simp] theorem State.settleRows_timer (s : State) : (s.settleRows).timer = s.timer := rfl
@[simp] theorem State.settleRows_odo (s : State) : (s.settleRows).odo = s.odo := rfl
@[simp] theorem State.settleRows_pacer (s : State) : (s.settleRows).pacer = s.pacer := rfl
@[simp] theorem State.settleRows_bus (s : State) : (s.settleRows).bus = s.bus := rfl
@[simp] theorem State.settleRows_sensor (s : State) : (s.settleRows).sensor = s.sensor := rfl
@[simp] theorem State.settleRows_control (s : State) : (s.settleRows).control = s.control := rfl
@[simp] theorem State.settleRows_port (s : State) : (s.settleRows).port = s.port := rfl
@[simp] theorem State.settleRows_draws (s : State) : (s.settleRows).draws = s.draws := rfl
@[simp] theorem State.settleRows_pending (s : State) : (s.settleRows).pending = s.pending := rfl
@[simp] theorem State.settleRows_cfg (s : State) : (s.settleRows).cfg = s.cfg := rfl
@[simp] theorem State.settleRows_armed (s : State) : (s.settleRows).armed = s.armed := rfl
@[simp] theorem State.settleRows_post (s : State) : (s.settleRows).post = s.post := rfl

/-! ### `State.expireRows` -/

@[simp] theorem State.expireRows_resetn (p : Nat) (s : State) : (s.expireRows p).resetn = s.resetn := rfl
@[simp] theorem State.expireRows_timer (p : Nat) (s : State) : (s.expireRows p).timer = s.timer := rfl
@[simp] theorem State.expireRows_odo (p : Nat) (s : State) : (s.expireRows p).odo = s.odo := rfl
@[simp] theorem State.expireRows_pacer (p : Nat) (s : State) : (s.expireRows p).pacer = s.pacer := rfl
@[simp] theorem State.expireRows_bus (p : Nat) (s : State) : (s.expireRows p).bus = s.bus := rfl
@[simp] theorem State.expireRows_sensor (p : Nat) (s : State) : (s.expireRows p).sensor = s.sensor := rfl
@[simp] theorem State.expireRows_control (p : Nat) (s : State) : (s.expireRows p).control = s.control := rfl
@[simp] theorem State.expireRows_port (p : Nat) (s : State) : (s.expireRows p).port = s.port := rfl
@[simp] theorem State.expireRows_draws (p : Nat) (s : State) : (s.expireRows p).draws = s.draws := rfl
@[simp] theorem State.expireRows_pending (p : Nat) (s : State) : (s.expireRows p).pending = s.pending := rfl
@[simp] theorem State.expireRows_cfg (p : Nat) (s : State) : (s.expireRows p).cfg = s.cfg := rfl
@[simp] theorem State.expireRows_armed (p : Nat) (s : State) : (s.expireRows p).armed = s.armed := rfl
@[simp] theorem State.expireRows_post (p : Nat) (s : State) : (s.expireRows p).post = s.post := rfl

/-! ### `State.openRow` -/

@[simp] theorem State.openRow_resetn (row : Row) (s : State) : (s.openRow row).resetn = s.resetn := rfl
@[simp] theorem State.openRow_timer (row : Row) (s : State) : (s.openRow row).timer = s.timer := rfl
@[simp] theorem State.openRow_odo (row : Row) (s : State) : (s.openRow row).odo = s.odo := rfl
@[simp] theorem State.openRow_pacer (row : Row) (s : State) : (s.openRow row).pacer = s.pacer := rfl
@[simp] theorem State.openRow_bus (row : Row) (s : State) : (s.openRow row).bus = s.bus := rfl
@[simp] theorem State.openRow_sensor (row : Row) (s : State) : (s.openRow row).sensor = s.sensor := rfl
@[simp] theorem State.openRow_control (row : Row) (s : State) : (s.openRow row).control = s.control := rfl
@[simp] theorem State.openRow_port (row : Row) (s : State) : (s.openRow row).port = s.port := rfl
@[simp] theorem State.openRow_draws (row : Row) (s : State) : (s.openRow row).draws = s.draws := rfl
@[simp] theorem State.openRow_pending (row : Row) (s : State) : (s.openRow row).pending = s.pending := rfl
@[simp] theorem State.openRow_cfg (row : Row) (s : State) : (s.openRow row).cfg = s.cfg := rfl
@[simp] theorem State.openRow_armed (row : Row) (s : State) : (s.openRow row).armed = s.armed := rfl
@[simp] theorem State.openRow_post (row : Row) (s : State) : (s.openRow row).post = s.post := rfl

/-! ### `State.storeSample` -/

@[simp] theorem State.storeSample_resetn (i : Fin 8) (n : Nat) (x : Sample) (s : State) :
    (s.storeSample i n x).resetn = s.resetn := rfl
@[simp] theorem State.storeSample_timer (i : Fin 8) (n : Nat) (x : Sample) (s : State) :
    (s.storeSample i n x).timer = s.timer := rfl
@[simp] theorem State.storeSample_odo (i : Fin 8) (n : Nat) (x : Sample) (s : State) :
    (s.storeSample i n x).odo = s.odo := rfl
@[simp] theorem State.storeSample_pacer (i : Fin 8) (n : Nat) (x : Sample) (s : State) :
    (s.storeSample i n x).pacer = s.pacer := rfl
@[simp] theorem State.storeSample_bus (i : Fin 8) (n : Nat) (x : Sample) (s : State) :
    (s.storeSample i n x).bus = s.bus := rfl
@[simp] theorem State.storeSample_sensor (i : Fin 8) (n : Nat) (x : Sample) (s : State) :
    (s.storeSample i n x).sensor = s.sensor := rfl
@[simp] theorem State.storeSample_control (i : Fin 8) (n : Nat) (x : Sample) (s : State) :
    (s.storeSample i n x).control = s.control := rfl
@[simp] theorem State.storeSample_port (i : Fin 8) (n : Nat) (x : Sample) (s : State) :
    (s.storeSample i n x).port = s.port := rfl
@[simp] theorem State.storeSample_draws (i : Fin 8) (n : Nat) (x : Sample) (s : State) :
    (s.storeSample i n x).draws = s.draws := rfl
@[simp] theorem State.storeSample_pending (i : Fin 8) (n : Nat) (x : Sample) (s : State) :
    (s.storeSample i n x).pending = s.pending := rfl
@[simp] theorem State.storeSample_cfg (i : Fin 8) (n : Nat) (x : Sample) (s : State) :
    (s.storeSample i n x).cfg = s.cfg := rfl
@[simp] theorem State.storeSample_armed (i : Fin 8) (n : Nat) (x : Sample) (s : State) :
    (s.storeSample i n x).armed = s.armed := rfl
@[simp] theorem State.storeSample_post (i : Fin 8) (n : Nat) (x : Sample) (s : State) :
    (s.storeSample i n x).post = s.post := rfl

/-! ### `State.testRequest` -/

@[simp] theorem State.testRequest_resetn (s : State) : (s.testRequest).resetn = s.resetn := rfl
@[simp] theorem State.testRequest_timer (s : State) : (s.testRequest).timer = s.timer := rfl
@[simp] theorem State.testRequest_odo (s : State) : (s.testRequest).odo = s.odo := rfl
@[simp] theorem State.testRequest_pacer (s : State) : (s.testRequest).pacer = s.pacer := rfl
@[simp] theorem State.testRequest_sensor (s : State) : (s.testRequest).sensor = s.sensor := rfl
@[simp] theorem State.testRequest_window (s : State) : (s.testRequest).window = s.window := rfl
@[simp] theorem State.testRequest_results (s : State) : (s.testRequest).results = s.results := rfl
@[simp] theorem State.testRequest_ring (s : State) : (s.testRequest).ring = s.ring := rfl
@[simp] theorem State.testRequest_tracker (s : State) : (s.testRequest).tracker = s.tracker := rfl
@[simp] theorem State.testRequest_marker (s : State) : (s.testRequest).marker = s.marker := rfl
@[simp] theorem State.testRequest_alert (s : State) : (s.testRequest).alert = s.alert := rfl
@[simp] theorem State.testRequest_control (s : State) : (s.testRequest).control = s.control := rfl
@[simp] theorem State.testRequest_port (s : State) : (s.testRequest).port = s.port := rfl
@[simp] theorem State.testRequest_draws (s : State) : (s.testRequest).draws = s.draws := rfl
@[simp] theorem State.testRequest_pending (s : State) : (s.testRequest).pending = s.pending := rfl
@[simp] theorem State.testRequest_cfg (s : State) : (s.testRequest).cfg = s.cfg := rfl
@[simp] theorem State.testRequest_armed (s : State) : (s.testRequest).armed = s.armed := rfl
@[simp] theorem State.testRequest_post (s : State) : (s.testRequest).post = s.post := rfl

/-! ### `State.advanceMarker` -/

@[simp] theorem State.advanceMarker_resetn (p : Nat) (s : State) : (s.advanceMarker p).resetn = s.resetn := rfl
@[simp] theorem State.advanceMarker_timer (p : Nat) (s : State) : (s.advanceMarker p).timer = s.timer := rfl
@[simp] theorem State.advanceMarker_odo (p : Nat) (s : State) : (s.advanceMarker p).odo = s.odo := rfl
@[simp] theorem State.advanceMarker_pacer (p : Nat) (s : State) : (s.advanceMarker p).pacer = s.pacer := rfl
@[simp] theorem State.advanceMarker_bus (p : Nat) (s : State) : (s.advanceMarker p).bus = s.bus := rfl
@[simp] theorem State.advanceMarker_sensor (p : Nat) (s : State) : (s.advanceMarker p).sensor = s.sensor := rfl
@[simp] theorem State.advanceMarker_window (p : Nat) (s : State) : (s.advanceMarker p).window = s.window := rfl
@[simp] theorem State.advanceMarker_results (p : Nat) (s : State) : (s.advanceMarker p).results = s.results := rfl
@[simp] theorem State.advanceMarker_ring (p : Nat) (s : State) : (s.advanceMarker p).ring = s.ring := rfl
@[simp] theorem State.advanceMarker_tracker (p : Nat) (s : State) : (s.advanceMarker p).tracker = s.tracker := rfl
@[simp] theorem State.advanceMarker_control (p : Nat) (s : State) : (s.advanceMarker p).control = s.control := rfl
@[simp] theorem State.advanceMarker_port (p : Nat) (s : State) : (s.advanceMarker p).port = s.port := rfl
@[simp] theorem State.advanceMarker_draws (p : Nat) (s : State) : (s.advanceMarker p).draws = s.draws := rfl
@[simp] theorem State.advanceMarker_pending (p : Nat) (s : State) : (s.advanceMarker p).pending = s.pending := rfl
@[simp] theorem State.advanceMarker_cfg (p : Nat) (s : State) : (s.advanceMarker p).cfg = s.cfg := rfl
@[simp] theorem State.advanceMarker_armed (p : Nat) (s : State) : (s.advanceMarker p).armed = s.armed := rfl
@[simp] theorem State.advanceMarker_post (p : Nat) (s : State) : (s.advanceMarker p).post = s.post := rfl

/-! ### `State.postAdvance` -/

@[simp] theorem State.postAdvance_resetn (p : Nat) (s : State) : (s.postAdvance p).resetn = s.resetn := rfl
@[simp] theorem State.postAdvance_timer (p : Nat) (s : State) : (s.postAdvance p).timer = s.timer := rfl
@[simp] theorem State.postAdvance_odo (p : Nat) (s : State) : (s.postAdvance p).odo = s.odo := rfl
@[simp] theorem State.postAdvance_pacer (p : Nat) (s : State) : (s.postAdvance p).pacer = s.pacer := rfl
@[simp] theorem State.postAdvance_sensor (p : Nat) (s : State) : (s.postAdvance p).sensor = s.sensor := rfl
@[simp] theorem State.postAdvance_control (p : Nat) (s : State) : (s.postAdvance p).control = s.control := rfl
@[simp] theorem State.postAdvance_port (p : Nat) (s : State) : (s.postAdvance p).port = s.port := rfl
@[simp] theorem State.postAdvance_draws (p : Nat) (s : State) : (s.postAdvance p).draws = s.draws := rfl
@[simp] theorem State.postAdvance_pending (p : Nat) (s : State) : (s.postAdvance p).pending = s.pending := rfl
@[simp] theorem State.postAdvance_cfg (p : Nat) (s : State) : (s.postAdvance p).cfg = s.cfg := rfl
@[simp] theorem State.postAdvance_armed (p : Nat) (s : State) : (s.postAdvance p).armed = s.armed := rfl
@[simp] theorem State.postAdvance_post (p : Nat) (s : State) : (s.postAdvance p).post = s.post := rfl

/-! ### `State.closeInterval` -/

@[simp] theorem State.closeInterval_resetn (n : Nat) (s : State) : (s.closeInterval n).resetn = s.resetn := rfl
@[simp] theorem State.closeInterval_timer (n : Nat) (s : State) : (s.closeInterval n).timer = s.timer := rfl
@[simp] theorem State.closeInterval_pacer (n : Nat) (s : State) : (s.closeInterval n).pacer = s.pacer := rfl
@[simp] theorem State.closeInterval_bus (n : Nat) (s : State) : (s.closeInterval n).bus = s.bus := rfl
@[simp] theorem State.closeInterval_sensor (n : Nat) (s : State) : (s.closeInterval n).sensor = s.sensor := rfl
@[simp] theorem State.closeInterval_window (n : Nat) (s : State) : (s.closeInterval n).window = s.window := rfl
@[simp] theorem State.closeInterval_results (n : Nat) (s : State) : (s.closeInterval n).results = s.results := rfl
@[simp] theorem State.closeInterval_ring (n : Nat) (s : State) : (s.closeInterval n).ring = s.ring := rfl
@[simp] theorem State.closeInterval_tracker (n : Nat) (s : State) : (s.closeInterval n).tracker = s.tracker := rfl
@[simp] theorem State.closeInterval_marker (n : Nat) (s : State) : (s.closeInterval n).marker = s.marker := rfl
@[simp] theorem State.closeInterval_alert (n : Nat) (s : State) : (s.closeInterval n).alert = s.alert := rfl
@[simp] theorem State.closeInterval_control (n : Nat) (s : State) : (s.closeInterval n).control = s.control := rfl
@[simp] theorem State.closeInterval_port (n : Nat) (s : State) : (s.closeInterval n).port = s.port := rfl
@[simp] theorem State.closeInterval_draws (n : Nat) (s : State) : (s.closeInterval n).draws = s.draws := rfl
@[simp] theorem State.closeInterval_pending (n : Nat) (s : State) : (s.closeInterval n).pending = s.pending := rfl
@[simp] theorem State.closeInterval_cfg (n : Nat) (s : State) : (s.closeInterval n).cfg = s.cfg := rfl
@[simp] theorem State.closeInterval_armed (n : Nat) (s : State) : (s.closeInterval n).armed = s.armed := rfl
@[simp] theorem State.closeInterval_post (n : Nat) (s : State) : (s.closeInterval n).post = s.post := rfl

/-! ### `State.latch` -/

@[simp] theorem State.latch_resetn (n k : Nat) (s : State) : (s.latch n k).resetn = s.resetn := rfl
@[simp] theorem State.latch_timer (n k : Nat) (s : State) : (s.latch n k).timer = s.timer := rfl
@[simp] theorem State.latch_pacer (n k : Nat) (s : State) : (s.latch n k).pacer = s.pacer := rfl
@[simp] theorem State.latch_sensor (n k : Nat) (s : State) : (s.latch n k).sensor = s.sensor := rfl
@[simp] theorem State.latch_control (n k : Nat) (s : State) : (s.latch n k).control = s.control := rfl
@[simp] theorem State.latch_port (n k : Nat) (s : State) : (s.latch n k).port = s.port := rfl
@[simp] theorem State.latch_draws (n k : Nat) (s : State) : (s.latch n k).draws = s.draws := rfl
@[simp] theorem State.latch_pending (n k : Nat) (s : State) : (s.latch n k).pending = s.pending := rfl
@[simp] theorem State.latch_cfg (n k : Nat) (s : State) : (s.latch n k).cfg = s.cfg := rfl
@[simp] theorem State.latch_armed (n k : Nat) (s : State) : (s.latch n k).armed = s.armed := rfl
@[simp] theorem State.latch_post (n k : Nat) (s : State) : (s.latch n k).post = s.post := rfl

/-! ### `State.enterPost` -/

@[simp] theorem State.enterPost_resetn (n : Nat) (s : State) : (s.enterPost n).resetn = s.resetn := rfl
@[simp] theorem State.enterPost_timer (n : Nat) (s : State) : (s.enterPost n).timer = s.timer := rfl
@[simp] theorem State.enterPost_odo (n : Nat) (s : State) : (s.enterPost n).odo = s.odo := rfl
@[simp] theorem State.enterPost_bus (n : Nat) (s : State) : (s.enterPost n).bus = s.bus := rfl
@[simp] theorem State.enterPost_sensor (n : Nat) (s : State) : (s.enterPost n).sensor = s.sensor := rfl
@[simp] theorem State.enterPost_window (n : Nat) (s : State) : (s.enterPost n).window = s.window := rfl
@[simp] theorem State.enterPost_results (n : Nat) (s : State) : (s.enterPost n).results = s.results := rfl
@[simp] theorem State.enterPost_ring (n : Nat) (s : State) : (s.enterPost n).ring = s.ring := rfl
@[simp] theorem State.enterPost_tracker (n : Nat) (s : State) : (s.enterPost n).tracker = s.tracker := rfl
@[simp] theorem State.enterPost_marker (n : Nat) (s : State) : (s.enterPost n).marker = s.marker := rfl
@[simp] theorem State.enterPost_alert (n : Nat) (s : State) : (s.enterPost n).alert = s.alert := rfl
@[simp] theorem State.enterPost_port (n : Nat) (s : State) : (s.enterPost n).port = s.port := rfl
@[simp] theorem State.enterPost_draws (n : Nat) (s : State) : (s.enterPost n).draws = s.draws := rfl
@[simp] theorem State.enterPost_pending (n : Nat) (s : State) : (s.enterPost n).pending = s.pending := rfl
@[simp] theorem State.enterPost_cfg (n : Nat) (s : State) : (s.enterPost n).cfg = s.cfg := rfl

/-! ### `State.takeIndex` -/

@[simp] theorem State.takeIndex_resetn (n : Nat) (s : State) : (s.takeIndex n).resetn = s.resetn := rfl
@[simp] theorem State.takeIndex_timer (n : Nat) (s : State) : (s.takeIndex n).timer = s.timer := rfl
@[simp] theorem State.takeIndex_sensor (n : Nat) (s : State) : (s.takeIndex n).sensor = s.sensor := rfl
@[simp] theorem State.takeIndex_window (n : Nat) (s : State) : (s.takeIndex n).window = s.window := rfl
@[simp] theorem State.takeIndex_results (n : Nat) (s : State) : (s.takeIndex n).results = s.results := rfl
@[simp] theorem State.takeIndex_ring (n : Nat) (s : State) : (s.takeIndex n).ring = s.ring := rfl
@[simp] theorem State.takeIndex_tracker (n : Nat) (s : State) : (s.takeIndex n).tracker = s.tracker := rfl
@[simp] theorem State.takeIndex_marker (n : Nat) (s : State) : (s.takeIndex n).marker = s.marker := rfl
@[simp] theorem State.takeIndex_alert (n : Nat) (s : State) : (s.takeIndex n).alert = s.alert := rfl
@[simp] theorem State.takeIndex_port (n : Nat) (s : State) : (s.takeIndex n).port = s.port := rfl
@[simp] theorem State.takeIndex_draws (n : Nat) (s : State) : (s.takeIndex n).draws = s.draws := rfl
@[simp] theorem State.takeIndex_pending (n : Nat) (s : State) : (s.takeIndex n).pending = s.pending := rfl
@[simp] theorem State.takeIndex_cfg (n : Nat) (s : State) : (s.takeIndex n).cfg = s.cfg := rfl

/-! ### `State.adoptMark` -/

@[simp] theorem State.adoptMark_resetn (n : Nat) (s : State) : (s.adoptMark n).resetn = s.resetn := rfl
@[simp] theorem State.adoptMark_timer (n : Nat) (s : State) : (s.adoptMark n).timer = s.timer := rfl
@[simp] theorem State.adoptMark_sensor (n : Nat) (s : State) : (s.adoptMark n).sensor = s.sensor := rfl
@[simp] theorem State.adoptMark_port (n : Nat) (s : State) : (s.adoptMark n).port = s.port := rfl
@[simp] theorem State.adoptMark_draws (n : Nat) (s : State) : (s.adoptMark n).draws = s.draws := rfl
@[simp] theorem State.adoptMark_pending (n : Nat) (s : State) : (s.adoptMark n).pending = s.pending := rfl
@[simp] theorem State.adoptMark_cfg (n : Nat) (s : State) : (s.adoptMark n).cfg = s.cfg := rfl

/-! ### `State.adoptSilently` -/

@[simp] theorem State.adoptSilently_resetn (n : Nat) (s : State) : (s.adoptSilently n).resetn = s.resetn := rfl
@[simp] theorem State.adoptSilently_timer (n : Nat) (s : State) : (s.adoptSilently n).timer = s.timer := rfl
@[simp] theorem State.adoptSilently_sensor (n : Nat) (s : State) : (s.adoptSilently n).sensor = s.sensor := rfl
@[simp] theorem State.adoptSilently_port (n : Nat) (s : State) : (s.adoptSilently n).port = s.port := rfl
@[simp] theorem State.adoptSilently_draws (n : Nat) (s : State) : (s.adoptSilently n).draws = s.draws := rfl
@[simp] theorem State.adoptSilently_pending (n : Nat) (s : State) : (s.adoptSilently n).pending = s.pending := rfl
@[simp] theorem State.adoptSilently_cfg (n : Nat) (s : State) : (s.adoptSilently n).cfg = s.cfg := rfl

/-! ### `State.completeMark` -/

@[simp] theorem State.completeMark_resetn (k : Nat) (s : State) : (s.completeMark k).resetn = s.resetn := rfl
@[simp] theorem State.completeMark_timer (k : Nat) (s : State) : (s.completeMark k).timer = s.timer := rfl
@[simp] theorem State.completeMark_sensor (k : Nat) (s : State) : (s.completeMark k).sensor = s.sensor := rfl
@[simp] theorem State.completeMark_port (k : Nat) (s : State) : (s.completeMark k).port = s.port := rfl
@[simp] theorem State.completeMark_draws (k : Nat) (s : State) : (s.completeMark k).draws = s.draws := rfl
@[simp] theorem State.completeMark_pending (k : Nat) (s : State) : (s.completeMark k).pending = s.pending := rfl
@[simp] theorem State.completeMark_cfg (k : Nat) (s : State) : (s.completeMark k).cfg = s.cfg := rfl

/-! ### `State.countConflict` -/

@[simp] theorem State.countConflict_resetn (s : State) : (s.countConflict).resetn = s.resetn := rfl
@[simp] theorem State.countConflict_timer (s : State) : (s.countConflict).timer = s.timer := rfl
@[simp] theorem State.countConflict_odo (s : State) : (s.countConflict).odo = s.odo := rfl
@[simp] theorem State.countConflict_bus (s : State) : (s.countConflict).bus = s.bus := rfl
@[simp] theorem State.countConflict_sensor (s : State) : (s.countConflict).sensor = s.sensor := rfl
@[simp] theorem State.countConflict_window (s : State) : (s.countConflict).window = s.window := rfl
@[simp] theorem State.countConflict_results (s : State) : (s.countConflict).results = s.results := rfl
@[simp] theorem State.countConflict_ring (s : State) : (s.countConflict).ring = s.ring := rfl
@[simp] theorem State.countConflict_tracker (s : State) : (s.countConflict).tracker = s.tracker := rfl
@[simp] theorem State.countConflict_marker (s : State) : (s.countConflict).marker = s.marker := rfl
@[simp] theorem State.countConflict_alert (s : State) : (s.countConflict).alert = s.alert := rfl
@[simp] theorem State.countConflict_control (s : State) : (s.countConflict).control = s.control := rfl
@[simp] theorem State.countConflict_port (s : State) : (s.countConflict).port = s.port := rfl
@[simp] theorem State.countConflict_draws (s : State) : (s.countConflict).draws = s.draws := rfl
@[simp] theorem State.countConflict_pending (s : State) : (s.countConflict).pending = s.pending := rfl
@[simp] theorem State.countConflict_cfg (s : State) : (s.countConflict).cfg = s.cfg := rfl
@[simp] theorem State.countConflict_armed (s : State) : (s.countConflict).armed = s.armed := rfl
@[simp] theorem State.countConflict_post (s : State) : (s.countConflict).post = s.post := rfl

/-! ### `State.elapse` -/

@[simp] theorem State.elapse_resetn (n : Nat) (s : State) : (s.elapse n).resetn = s.resetn := rfl
@[simp] theorem State.elapse_pacer (n : Nat) (s : State) : (s.elapse n).pacer = s.pacer := rfl
@[simp] theorem State.elapse_bus (n : Nat) (s : State) : (s.elapse n).bus = s.bus := rfl
@[simp] theorem State.elapse_window (n : Nat) (s : State) : (s.elapse n).window = s.window := rfl
@[simp] theorem State.elapse_results (n : Nat) (s : State) : (s.elapse n).results = s.results := rfl
@[simp] theorem State.elapse_ring (n : Nat) (s : State) : (s.elapse n).ring = s.ring := rfl
@[simp] theorem State.elapse_tracker (n : Nat) (s : State) : (s.elapse n).tracker = s.tracker := rfl
@[simp] theorem State.elapse_alert (n : Nat) (s : State) : (s.elapse n).alert = s.alert := rfl
@[simp] theorem State.elapse_control (n : Nat) (s : State) : (s.elapse n).control = s.control := rfl
@[simp] theorem State.elapse_port (n : Nat) (s : State) : (s.elapse n).port = s.port := rfl
@[simp] theorem State.elapse_draws (n : Nat) (s : State) : (s.elapse n).draws = s.draws := rfl
@[simp] theorem State.elapse_pending (n : Nat) (s : State) : (s.elapse n).pending = s.pending := rfl
@[simp] theorem State.elapse_cfg (n : Nat) (s : State) : (s.elapse n).cfg = s.cfg := rfl
@[simp] theorem State.elapse_armed (n : Nat) (s : State) : (s.elapse n).armed = s.armed := rfl
@[simp] theorem State.elapse_post (n : Nat) (s : State) : (s.elapse n).post = s.post := rfl

/-! ### `State.holdReset` -/

@[simp] theorem State.holdReset_timer (s : State) : (s.holdReset).timer = s.timer := rfl
@[simp] theorem State.holdReset_odo (s : State) : (s.holdReset).odo = s.odo := rfl
@[simp] theorem State.holdReset_pacer (s : State) : (s.holdReset).pacer = s.pacer := rfl
@[simp] theorem State.holdReset_sensor (s : State) : (s.holdReset).sensor = s.sensor := rfl
@[simp] theorem State.holdReset_window (s : State) : (s.holdReset).window = s.window := rfl
@[simp] theorem State.holdReset_results (s : State) : (s.holdReset).results = s.results := rfl
@[simp] theorem State.holdReset_ring (s : State) : (s.holdReset).ring = s.ring := rfl
@[simp] theorem State.holdReset_tracker (s : State) : (s.holdReset).tracker = s.tracker := rfl
@[simp] theorem State.holdReset_alert (s : State) : (s.holdReset).alert = s.alert := rfl
@[simp] theorem State.holdReset_draws (s : State) : (s.holdReset).draws = s.draws := rfl
@[simp] theorem State.holdReset_pending (s : State) : (s.holdReset).pending = s.pending := rfl
@[simp] theorem State.holdReset_armed (s : State) : (s.holdReset).armed = s.armed := rfl
@[simp] theorem State.holdReset_post (s : State) : (s.holdReset).post = s.post := rfl

/-! ### `State.powerOn` -/

@[simp] theorem State.powerOn_timer (a b c : Bool) (s : State) : (s.powerOn a b c).timer = s.timer := rfl
@[simp] theorem State.powerOn_draws (a b c : Bool) (s : State) : (s.powerOn a b c).draws = s.draws := rfl
@[simp] theorem State.powerOn_pending (a b c : Bool) (s : State) : (s.powerOn a b c).pending = s.pending := rfl

/-! ### `State.endSelfTest` -/

@[simp] theorem State.endSelfTest_resetn (failed : BitVec 5) (s : State) :
    (s.endSelfTest failed).resetn = s.resetn := rfl
@[simp] theorem State.endSelfTest_timer (failed : BitVec 5) (s : State) : (s.endSelfTest failed).timer = s.timer := rfl
@[simp] theorem State.endSelfTest_odo (failed : BitVec 5) (s : State) : (s.endSelfTest failed).odo = s.odo := rfl
@[simp] theorem State.endSelfTest_pacer (failed : BitVec 5) (s : State) : (s.endSelfTest failed).pacer = s.pacer := rfl
@[simp] theorem State.endSelfTest_bus (failed : BitVec 5) (s : State) : (s.endSelfTest failed).bus = s.bus := rfl
@[simp] theorem State.endSelfTest_alert (failed : BitVec 5) (s : State) : (s.endSelfTest failed).alert = s.alert := rfl
@[simp] theorem State.endSelfTest_port (failed : BitVec 5) (s : State) : (s.endSelfTest failed).port = s.port := rfl
@[simp] theorem State.endSelfTest_draws (failed : BitVec 5) (s : State) : (s.endSelfTest failed).draws = s.draws := rfl
@[simp] theorem State.endSelfTest_pending (failed : BitVec 5) (s : State) :
    (s.endSelfTest failed).pending = s.pending := rfl
@[simp] theorem State.endSelfTest_cfg (failed : BitVec 5) (s : State) : (s.endSelfTest failed).cfg = s.cfg := rfl
@[simp] theorem State.endSelfTest_post (failed : BitVec 5) (s : State) : (s.endSelfTest failed).post = s.post := rfl

/-! ### `State.idleGap` -/

@[simp] theorem State.idleGap_resetn (s : State) : (s.idleGap).resetn = s.resetn := rfl
@[simp] theorem State.idleGap_timer (s : State) : (s.idleGap).timer = s.timer := rfl
@[simp] theorem State.idleGap_odo (s : State) : (s.idleGap).odo = s.odo := rfl
@[simp] theorem State.idleGap_pacer (s : State) : (s.idleGap).pacer = s.pacer := rfl
@[simp] theorem State.idleGap_sensor (s : State) : (s.idleGap).sensor = s.sensor := rfl
@[simp] theorem State.idleGap_window (s : State) : (s.idleGap).window = s.window := rfl
@[simp] theorem State.idleGap_results (s : State) : (s.idleGap).results = s.results := rfl
@[simp] theorem State.idleGap_ring (s : State) : (s.idleGap).ring = s.ring := rfl
@[simp] theorem State.idleGap_tracker (s : State) : (s.idleGap).tracker = s.tracker := rfl
@[simp] theorem State.idleGap_marker (s : State) : (s.idleGap).marker = s.marker := rfl
@[simp] theorem State.idleGap_alert (s : State) : (s.idleGap).alert = s.alert := rfl
@[simp] theorem State.idleGap_control (s : State) : (s.idleGap).control = s.control := rfl
@[simp] theorem State.idleGap_port (s : State) : (s.idleGap).port = s.port := rfl
@[simp] theorem State.idleGap_draws (s : State) : (s.idleGap).draws = s.draws := rfl
@[simp] theorem State.idleGap_pending (s : State) : (s.idleGap).pending = s.pending := rfl
@[simp] theorem State.idleGap_cfg (s : State) : (s.idleGap).cfg = s.cfg := rfl
@[simp] theorem State.idleGap_armed (s : State) : (s.idleGap).armed = s.armed := rfl
@[simp] theorem State.idleGap_post (s : State) : (s.idleGap).post = s.post := rfl

/-! ### `State.countCrcError` -/

@[simp] theorem State.countCrcError_resetn (s : State) : (s.countCrcError).resetn = s.resetn := rfl
@[simp] theorem State.countCrcError_timer (s : State) : (s.countCrcError).timer = s.timer := rfl
@[simp] theorem State.countCrcError_odo (s : State) : (s.countCrcError).odo = s.odo := rfl
@[simp] theorem State.countCrcError_pacer (s : State) : (s.countCrcError).pacer = s.pacer := rfl
@[simp] theorem State.countCrcError_sensor (s : State) : (s.countCrcError).sensor = s.sensor := rfl
@[simp] theorem State.countCrcError_window (s : State) : (s.countCrcError).window = s.window := rfl
@[simp] theorem State.countCrcError_results (s : State) : (s.countCrcError).results = s.results := rfl
@[simp] theorem State.countCrcError_ring (s : State) : (s.countCrcError).ring = s.ring := rfl
@[simp] theorem State.countCrcError_tracker (s : State) : (s.countCrcError).tracker = s.tracker := rfl
@[simp] theorem State.countCrcError_marker (s : State) : (s.countCrcError).marker = s.marker := rfl
@[simp] theorem State.countCrcError_alert (s : State) : (s.countCrcError).alert = s.alert := rfl
@[simp] theorem State.countCrcError_control (s : State) : (s.countCrcError).control = s.control := rfl
@[simp] theorem State.countCrcError_port (s : State) : (s.countCrcError).port = s.port := rfl
@[simp] theorem State.countCrcError_draws (s : State) : (s.countCrcError).draws = s.draws := rfl
@[simp] theorem State.countCrcError_pending (s : State) : (s.countCrcError).pending = s.pending := rfl
@[simp] theorem State.countCrcError_cfg (s : State) : (s.countCrcError).cfg = s.cfg := rfl
@[simp] theorem State.countCrcError_armed (s : State) : (s.countCrcError).armed = s.armed := rfl
@[simp] theorem State.countCrcError_post (s : State) : (s.countCrcError).post = s.post := rfl

/-! ### `State.countDuplicateStation` -/

@[simp] theorem State.countDuplicateStation_resetn (s : State) : (s.countDuplicateStation).resetn = s.resetn := rfl
@[simp] theorem State.countDuplicateStation_timer (s : State) : (s.countDuplicateStation).timer = s.timer := rfl
@[simp] theorem State.countDuplicateStation_odo (s : State) : (s.countDuplicateStation).odo = s.odo := rfl
@[simp] theorem State.countDuplicateStation_pacer (s : State) : (s.countDuplicateStation).pacer = s.pacer := rfl
@[simp] theorem State.countDuplicateStation_sensor (s : State) : (s.countDuplicateStation).sensor = s.sensor := rfl
@[simp] theorem State.countDuplicateStation_window (s : State) : (s.countDuplicateStation).window = s.window := rfl
@[simp] theorem State.countDuplicateStation_results (s : State) : (s.countDuplicateStation).results = s.results := rfl
@[simp] theorem State.countDuplicateStation_ring (s : State) : (s.countDuplicateStation).ring = s.ring := rfl
@[simp] theorem State.countDuplicateStation_tracker (s : State) : (s.countDuplicateStation).tracker = s.tracker := rfl
@[simp] theorem State.countDuplicateStation_marker (s : State) : (s.countDuplicateStation).marker = s.marker := rfl
@[simp] theorem State.countDuplicateStation_alert (s : State) : (s.countDuplicateStation).alert = s.alert := rfl
@[simp] theorem State.countDuplicateStation_control (s : State) : (s.countDuplicateStation).control = s.control := rfl
@[simp] theorem State.countDuplicateStation_port (s : State) : (s.countDuplicateStation).port = s.port := rfl
@[simp] theorem State.countDuplicateStation_draws (s : State) : (s.countDuplicateStation).draws = s.draws := rfl
@[simp] theorem State.countDuplicateStation_pending (s : State) : (s.countDuplicateStation).pending = s.pending := rfl
@[simp] theorem State.countDuplicateStation_cfg (s : State) : (s.countDuplicateStation).cfg = s.cfg := rfl
@[simp] theorem State.countDuplicateStation_armed (s : State) : (s.countDuplicateStation).armed = s.armed := rfl
@[simp] theorem State.countDuplicateStation_post (s : State) : (s.countDuplicateStation).post = s.post := rfl

/-! ### `State.drawn` -/

@[simp] theorem State.drawn_resetn (s : State) : (s.drawn).resetn = s.resetn := rfl
@[simp] theorem State.drawn_timer (s : State) : (s.drawn).timer = s.timer := rfl
@[simp] theorem State.drawn_odo (s : State) : (s.drawn).odo = s.odo := rfl
@[simp] theorem State.drawn_pacer (s : State) : (s.drawn).pacer = s.pacer := rfl
@[simp] theorem State.drawn_bus (s : State) : (s.drawn).bus = s.bus := rfl
@[simp] theorem State.drawn_sensor (s : State) : (s.drawn).sensor = s.sensor := rfl
@[simp] theorem State.drawn_window (s : State) : (s.drawn).window = s.window := rfl
@[simp] theorem State.drawn_results (s : State) : (s.drawn).results = s.results := rfl
@[simp] theorem State.drawn_ring (s : State) : (s.drawn).ring = s.ring := rfl
@[simp] theorem State.drawn_tracker (s : State) : (s.drawn).tracker = s.tracker := rfl
@[simp] theorem State.drawn_marker (s : State) : (s.drawn).marker = s.marker := rfl
@[simp] theorem State.drawn_alert (s : State) : (s.drawn).alert = s.alert := rfl
@[simp] theorem State.drawn_control (s : State) : (s.drawn).control = s.control := rfl
@[simp] theorem State.drawn_port (s : State) : (s.drawn).port = s.port := rfl
@[simp] theorem State.drawn_pending (s : State) : (s.drawn).pending = s.pending := rfl
@[simp] theorem State.drawn_cfg (s : State) : (s.drawn).cfg = s.cfg := rfl
@[simp] theorem State.drawn_armed (s : State) : (s.drawn).armed = s.armed := rfl
@[simp] theorem State.drawn_post (s : State) : (s.drawn).post = s.post := rfl

/-! ### `State.endTransaction` -/

@[simp] theorem State.endTransaction_resetn (s : State) : (s.endTransaction).resetn = s.resetn := rfl
@[simp] theorem State.endTransaction_timer (s : State) : (s.endTransaction).timer = s.timer := rfl
@[simp] theorem State.endTransaction_odo (s : State) : (s.endTransaction).odo = s.odo := rfl
@[simp] theorem State.endTransaction_pacer (s : State) : (s.endTransaction).pacer = s.pacer := rfl
@[simp] theorem State.endTransaction_bus (s : State) : (s.endTransaction).bus = s.bus := rfl
@[simp] theorem State.endTransaction_sensor (s : State) : (s.endTransaction).sensor = s.sensor := rfl
@[simp] theorem State.endTransaction_window (s : State) : (s.endTransaction).window = s.window := rfl
@[simp] theorem State.endTransaction_results (s : State) : (s.endTransaction).results = s.results := rfl
@[simp] theorem State.endTransaction_ring (s : State) : (s.endTransaction).ring = s.ring := rfl
@[simp] theorem State.endTransaction_tracker (s : State) : (s.endTransaction).tracker = s.tracker := rfl
@[simp] theorem State.endTransaction_marker (s : State) : (s.endTransaction).marker = s.marker := rfl
@[simp] theorem State.endTransaction_alert (s : State) : (s.endTransaction).alert = s.alert := rfl
@[simp] theorem State.endTransaction_control (s : State) : (s.endTransaction).control = s.control := rfl
@[simp] theorem State.endTransaction_draws (s : State) : (s.endTransaction).draws = s.draws := rfl
@[simp] theorem State.endTransaction_pending (s : State) : (s.endTransaction).pending = s.pending := rfl
@[simp] theorem State.endTransaction_cfg (s : State) : (s.endTransaction).cfg = s.cfg := rfl
@[simp] theorem State.endTransaction_armed (s : State) : (s.endTransaction).armed = s.armed := rfl
@[simp] theorem State.endTransaction_post (s : State) : (s.endTransaction).post = s.post := rfl

/-! ### `State.cancelWindow` -/

@[simp] theorem State.cancelWindow_resetn (s : State) : (s.cancelWindow).resetn = s.resetn := rfl
@[simp] theorem State.cancelWindow_timer (s : State) : (s.cancelWindow).timer = s.timer := rfl
@[simp] theorem State.cancelWindow_odo (s : State) : (s.cancelWindow).odo = s.odo := rfl
@[simp] theorem State.cancelWindow_pacer (s : State) : (s.cancelWindow).pacer = s.pacer := rfl
@[simp] theorem State.cancelWindow_bus (s : State) : (s.cancelWindow).bus = s.bus := rfl
@[simp] theorem State.cancelWindow_sensor (s : State) : (s.cancelWindow).sensor = s.sensor := rfl
@[simp] theorem State.cancelWindow_window (s : State) : (s.cancelWindow).window = s.window := rfl
@[simp] theorem State.cancelWindow_results (s : State) : (s.cancelWindow).results = s.results := rfl
@[simp] theorem State.cancelWindow_ring (s : State) : (s.cancelWindow).ring = s.ring := rfl
@[simp] theorem State.cancelWindow_tracker (s : State) : (s.cancelWindow).tracker = s.tracker := rfl
@[simp] theorem State.cancelWindow_marker (s : State) : (s.cancelWindow).marker = s.marker := rfl
@[simp] theorem State.cancelWindow_alert (s : State) : (s.cancelWindow).alert = s.alert := rfl
@[simp] theorem State.cancelWindow_control (s : State) : (s.cancelWindow).control = s.control := rfl
@[simp] theorem State.cancelWindow_draws (s : State) : (s.cancelWindow).draws = s.draws := rfl
@[simp] theorem State.cancelWindow_pending (s : State) : (s.cancelWindow).pending = s.pending := rfl
@[simp] theorem State.cancelWindow_cfg (s : State) : (s.cancelWindow).cfg = s.cfg := rfl
@[simp] theorem State.cancelWindow_armed (s : State) : (s.cancelWindow).armed = s.armed := rfl
@[simp] theorem State.cancelWindow_post (s : State) : (s.cancelWindow).post = s.post := rfl

/-! ### `State.withTransaction` -/

@[simp] theorem State.withTransaction_resetn (t : Transaction) (s : State) : (s.withTransaction t).resetn = s.resetn := rfl
@[simp] theorem State.withTransaction_timer (t : Transaction) (s : State) : (s.withTransaction t).timer = s.timer := rfl
@[simp] theorem State.withTransaction_odo (t : Transaction) (s : State) : (s.withTransaction t).odo = s.odo := rfl
@[simp] theorem State.withTransaction_pacer (t : Transaction) (s : State) : (s.withTransaction t).pacer = s.pacer := rfl
@[simp] theorem State.withTransaction_bus (t : Transaction) (s : State) : (s.withTransaction t).bus = s.bus := rfl
@[simp] theorem State.withTransaction_sensor (t : Transaction) (s : State) : (s.withTransaction t).sensor = s.sensor := rfl
@[simp] theorem State.withTransaction_window (t : Transaction) (s : State) : (s.withTransaction t).window = s.window := rfl
@[simp] theorem State.withTransaction_results (t : Transaction) (s : State) : (s.withTransaction t).results = s.results := rfl
@[simp] theorem State.withTransaction_ring (t : Transaction) (s : State) : (s.withTransaction t).ring = s.ring := rfl
@[simp] theorem State.withTransaction_tracker (t : Transaction) (s : State) : (s.withTransaction t).tracker = s.tracker := rfl
@[simp] theorem State.withTransaction_marker (t : Transaction) (s : State) : (s.withTransaction t).marker = s.marker := rfl
@[simp] theorem State.withTransaction_alert (t : Transaction) (s : State) : (s.withTransaction t).alert = s.alert := rfl
@[simp] theorem State.withTransaction_control (t : Transaction) (s : State) : (s.withTransaction t).control = s.control := rfl
@[simp] theorem State.withTransaction_draws (t : Transaction) (s : State) : (s.withTransaction t).draws = s.draws := rfl
@[simp] theorem State.withTransaction_pending (t : Transaction) (s : State) : (s.withTransaction t).pending = s.pending := rfl
@[simp] theorem State.withTransaction_cfg (t : Transaction) (s : State) : (s.withTransaction t).cfg = s.cfg := rfl
@[simp] theorem State.withTransaction_armed (t : Transaction) (s : State) : (s.withTransaction t).armed = s.armed := rfl
@[simp] theorem State.withTransaction_post (t : Transaction) (s : State) : (s.withTransaction t).post = s.post := rfl

/-! ### `State.respond` -/

@[simp] theorem State.respond_resetn (bytes : List Byte) (r : Reply) (s : State) :
    (s.respond bytes r).resetn = s.resetn := rfl
@[simp] theorem State.respond_timer (bytes : List Byte) (r : Reply) (s : State) :
    (s.respond bytes r).timer = s.timer := rfl
@[simp] theorem State.respond_odo (bytes : List Byte) (r : Reply) (s : State) : (s.respond bytes r).odo = s.odo := rfl
@[simp] theorem State.respond_pacer (bytes : List Byte) (r : Reply) (s : State) :
    (s.respond bytes r).pacer = s.pacer := rfl
@[simp] theorem State.respond_bus (bytes : List Byte) (r : Reply) (s : State) : (s.respond bytes r).bus = s.bus := rfl
@[simp] theorem State.respond_sensor (bytes : List Byte) (r : Reply) (s : State) :
    (s.respond bytes r).sensor = s.sensor := rfl
@[simp] theorem State.respond_window (bytes : List Byte) (r : Reply) (s : State) :
    (s.respond bytes r).window = s.window := rfl
@[simp] theorem State.respond_results (bytes : List Byte) (r : Reply) (s : State) :
    (s.respond bytes r).results = s.results := rfl
@[simp] theorem State.respond_ring (bytes : List Byte) (r : Reply) (s : State) :
    (s.respond bytes r).ring = s.ring := rfl
@[simp] theorem State.respond_tracker (bytes : List Byte) (r : Reply) (s : State) :
    (s.respond bytes r).tracker = s.tracker := rfl
@[simp] theorem State.respond_marker (bytes : List Byte) (r : Reply) (s : State) :
    (s.respond bytes r).marker = s.marker := rfl
@[simp] theorem State.respond_alert (bytes : List Byte) (r : Reply) (s : State) :
    (s.respond bytes r).alert = s.alert := rfl
@[simp] theorem State.respond_control (bytes : List Byte) (r : Reply) (s : State) :
    (s.respond bytes r).control = s.control := rfl
@[simp] theorem State.respond_draws (bytes : List Byte) (r : Reply) (s : State) :
    (s.respond bytes r).draws = s.draws := rfl
@[simp] theorem State.respond_pending (bytes : List Byte) (r : Reply) (s : State) :
    (s.respond bytes r).pending = s.pending := rfl
@[simp] theorem State.respond_cfg (bytes : List Byte) (r : Reply) (s : State) : (s.respond bytes r).cfg = s.cfg := rfl
@[simp] theorem State.respond_armed (bytes : List Byte) (r : Reply) (s : State) :
    (s.respond bytes r).armed = s.armed := rfl
@[simp] theorem State.respond_post (bytes : List Byte) (r : Reply) (s : State) :
    (s.respond bytes r).post = s.post := rfl

/-! ### `State.setShifting` -/

@[simp] theorem State.setShifting_resetn (t : Transaction) (n : Nat) (x : Shifting) (s : State) :
    (s.setShifting t n x).resetn = s.resetn := rfl
@[simp] theorem State.setShifting_timer (t : Transaction) (n : Nat) (x : Shifting) (s : State) :
    (s.setShifting t n x).timer = s.timer := rfl
@[simp] theorem State.setShifting_odo (t : Transaction) (n : Nat) (x : Shifting) (s : State) :
    (s.setShifting t n x).odo = s.odo := rfl
@[simp] theorem State.setShifting_pacer (t : Transaction) (n : Nat) (x : Shifting) (s : State) :
    (s.setShifting t n x).pacer = s.pacer := rfl
@[simp] theorem State.setShifting_bus (t : Transaction) (n : Nat) (x : Shifting) (s : State) :
    (s.setShifting t n x).bus = s.bus := rfl
@[simp] theorem State.setShifting_sensor (t : Transaction) (n : Nat) (x : Shifting) (s : State) :
    (s.setShifting t n x).sensor = s.sensor := rfl
@[simp] theorem State.setShifting_window (t : Transaction) (n : Nat) (x : Shifting) (s : State) :
    (s.setShifting t n x).window = s.window := rfl
@[simp] theorem State.setShifting_results (t : Transaction) (n : Nat) (x : Shifting) (s : State) :
    (s.setShifting t n x).results = s.results := rfl
@[simp] theorem State.setShifting_ring (t : Transaction) (n : Nat) (x : Shifting) (s : State) :
    (s.setShifting t n x).ring = s.ring := rfl
@[simp] theorem State.setShifting_tracker (t : Transaction) (n : Nat) (x : Shifting) (s : State) :
    (s.setShifting t n x).tracker = s.tracker := rfl
@[simp] theorem State.setShifting_marker (t : Transaction) (n : Nat) (x : Shifting) (s : State) :
    (s.setShifting t n x).marker = s.marker := rfl
@[simp] theorem State.setShifting_alert (t : Transaction) (n : Nat) (x : Shifting) (s : State) :
    (s.setShifting t n x).alert = s.alert := rfl
@[simp] theorem State.setShifting_control (t : Transaction) (n : Nat) (x : Shifting) (s : State) :
    (s.setShifting t n x).control = s.control := rfl
@[simp] theorem State.setShifting_draws (t : Transaction) (n : Nat) (x : Shifting) (s : State) :
    (s.setShifting t n x).draws = s.draws := rfl
@[simp] theorem State.setShifting_pending (t : Transaction) (n : Nat) (x : Shifting) (s : State) :
    (s.setShifting t n x).pending = s.pending := rfl
@[simp] theorem State.setShifting_cfg (t : Transaction) (n : Nat) (x : Shifting) (s : State) :
    (s.setShifting t n x).cfg = s.cfg := rfl
@[simp] theorem State.setShifting_armed (t : Transaction) (n : Nat) (x : Shifting) (s : State) :
    (s.setShifting t n x).armed = s.armed := rfl
@[simp] theorem State.setShifting_post (t : Transaction) (n : Nat) (x : Shifting) (s : State) :
    (s.setShifting t n x).post = s.post := rfl

/-! ### `State.receiveOnly` -/

@[simp] theorem State.receiveOnly_resetn (bytes : List Byte) (s : State) :
    (s.receiveOnly bytes).resetn = s.resetn := rfl
@[simp] theorem State.receiveOnly_timer (bytes : List Byte) (s : State) : (s.receiveOnly bytes).timer = s.timer := rfl
@[simp] theorem State.receiveOnly_odo (bytes : List Byte) (s : State) : (s.receiveOnly bytes).odo = s.odo := rfl
@[simp] theorem State.receiveOnly_pacer (bytes : List Byte) (s : State) : (s.receiveOnly bytes).pacer = s.pacer := rfl
@[simp] theorem State.receiveOnly_bus (bytes : List Byte) (s : State) : (s.receiveOnly bytes).bus = s.bus := rfl
@[simp] theorem State.receiveOnly_sensor (bytes : List Byte) (s : State) :
    (s.receiveOnly bytes).sensor = s.sensor := rfl
@[simp] theorem State.receiveOnly_window (bytes : List Byte) (s : State) :
    (s.receiveOnly bytes).window = s.window := rfl
@[simp] theorem State.receiveOnly_results (bytes : List Byte) (s : State) :
    (s.receiveOnly bytes).results = s.results := rfl
@[simp] theorem State.receiveOnly_ring (bytes : List Byte) (s : State) : (s.receiveOnly bytes).ring = s.ring := rfl
@[simp] theorem State.receiveOnly_tracker (bytes : List Byte) (s : State) :
    (s.receiveOnly bytes).tracker = s.tracker := rfl
@[simp] theorem State.receiveOnly_marker (bytes : List Byte) (s : State) :
    (s.receiveOnly bytes).marker = s.marker := rfl
@[simp] theorem State.receiveOnly_alert (bytes : List Byte) (s : State) : (s.receiveOnly bytes).alert = s.alert := rfl
@[simp] theorem State.receiveOnly_control (bytes : List Byte) (s : State) :
    (s.receiveOnly bytes).control = s.control := rfl
@[simp] theorem State.receiveOnly_draws (bytes : List Byte) (s : State) : (s.receiveOnly bytes).draws = s.draws := rfl
@[simp] theorem State.receiveOnly_pending (bytes : List Byte) (s : State) :
    (s.receiveOnly bytes).pending = s.pending := rfl
@[simp] theorem State.receiveOnly_cfg (bytes : List Byte) (s : State) : (s.receiveOnly bytes).cfg = s.cfg := rfl
@[simp] theorem State.receiveOnly_armed (bytes : List Byte) (s : State) : (s.receiveOnly bytes).armed = s.armed := rfl
@[simp] theorem State.receiveOnly_post (bytes : List Byte) (s : State) : (s.receiveOnly bytes).post = s.post := rfl

/-! ### `State.acceptBlock` -/

@[simp] theorem State.acceptBlock_resetn (b : List Byte) (s : State) : (s.acceptBlock b).resetn = s.resetn := rfl
@[simp] theorem State.acceptBlock_timer (b : List Byte) (s : State) : (s.acceptBlock b).timer = s.timer := rfl
@[simp] theorem State.acceptBlock_odo (b : List Byte) (s : State) : (s.acceptBlock b).odo = s.odo := rfl
@[simp] theorem State.acceptBlock_pacer (b : List Byte) (s : State) : (s.acceptBlock b).pacer = s.pacer := rfl
@[simp] theorem State.acceptBlock_bus (b : List Byte) (s : State) : (s.acceptBlock b).bus = s.bus := rfl
@[simp] theorem State.acceptBlock_sensor (b : List Byte) (s : State) : (s.acceptBlock b).sensor = s.sensor := rfl
@[simp] theorem State.acceptBlock_window (b : List Byte) (s : State) : (s.acceptBlock b).window = s.window := rfl
@[simp] theorem State.acceptBlock_results (b : List Byte) (s : State) : (s.acceptBlock b).results = s.results := rfl
@[simp] theorem State.acceptBlock_ring (b : List Byte) (s : State) : (s.acceptBlock b).ring = s.ring := rfl
@[simp] theorem State.acceptBlock_tracker (b : List Byte) (s : State) : (s.acceptBlock b).tracker = s.tracker := rfl
@[simp] theorem State.acceptBlock_marker (b : List Byte) (s : State) : (s.acceptBlock b).marker = s.marker := rfl
@[simp] theorem State.acceptBlock_port (b : List Byte) (s : State) : (s.acceptBlock b).port = s.port := rfl
@[simp] theorem State.acceptBlock_draws (b : List Byte) (s : State) : (s.acceptBlock b).draws = s.draws := rfl
@[simp] theorem State.acceptBlock_pending (b : List Byte) (s : State) : (s.acceptBlock b).pending = s.pending := rfl
@[simp] theorem State.acceptBlock_post (b : List Byte) (s : State) : (s.acceptBlock b).post = s.post := rfl

/-! ### `State.refuseBlock` -/

@[simp] theorem State.refuseBlock_resetn (cause : RefusalCause) (s : State) :
    (s.refuseBlock cause).resetn = s.resetn := rfl
@[simp] theorem State.refuseBlock_timer (cause : RefusalCause) (s : State) :
    (s.refuseBlock cause).timer = s.timer := rfl
@[simp] theorem State.refuseBlock_odo (cause : RefusalCause) (s : State) : (s.refuseBlock cause).odo = s.odo := rfl
@[simp] theorem State.refuseBlock_pacer (cause : RefusalCause) (s : State) :
    (s.refuseBlock cause).pacer = s.pacer := rfl
@[simp] theorem State.refuseBlock_bus (cause : RefusalCause) (s : State) : (s.refuseBlock cause).bus = s.bus := rfl
@[simp] theorem State.refuseBlock_sensor (cause : RefusalCause) (s : State) :
    (s.refuseBlock cause).sensor = s.sensor := rfl
@[simp] theorem State.refuseBlock_window (cause : RefusalCause) (s : State) :
    (s.refuseBlock cause).window = s.window := rfl
@[simp] theorem State.refuseBlock_results (cause : RefusalCause) (s : State) :
    (s.refuseBlock cause).results = s.results := rfl
@[simp] theorem State.refuseBlock_ring (cause : RefusalCause) (s : State) : (s.refuseBlock cause).ring = s.ring := rfl
@[simp] theorem State.refuseBlock_tracker (cause : RefusalCause) (s : State) :
    (s.refuseBlock cause).tracker = s.tracker := rfl
@[simp] theorem State.refuseBlock_marker (cause : RefusalCause) (s : State) :
    (s.refuseBlock cause).marker = s.marker := rfl
@[simp] theorem State.refuseBlock_alert (cause : RefusalCause) (s : State) :
    (s.refuseBlock cause).alert = s.alert := rfl
@[simp] theorem State.refuseBlock_port (cause : RefusalCause) (s : State) : (s.refuseBlock cause).port = s.port := rfl
@[simp] theorem State.refuseBlock_draws (cause : RefusalCause) (s : State) :
    (s.refuseBlock cause).draws = s.draws := rfl
@[simp] theorem State.refuseBlock_pending (cause : RefusalCause) (s : State) :
    (s.refuseBlock cause).pending = s.pending := rfl
@[simp] theorem State.refuseBlock_cfg (cause : RefusalCause) (s : State) : (s.refuseBlock cause).cfg = s.cfg := rfl
@[simp] theorem State.refuseBlock_armed (cause : RefusalCause) (s : State) :
    (s.refuseBlock cause).armed = s.armed := rfl
@[simp] theorem State.refuseBlock_post (cause : RefusalCause) (s : State) : (s.refuseBlock cause).post = s.post := rfl

/-! ### `State.armStation` -/

@[simp] theorem State.armStation_resetn (s : State) : (s.armStation).resetn = s.resetn := rfl
@[simp] theorem State.armStation_timer (s : State) : (s.armStation).timer = s.timer := rfl
@[simp] theorem State.armStation_port (s : State) : (s.armStation).port = s.port := rfl
@[simp] theorem State.armStation_draws (s : State) : (s.armStation).draws = s.draws := rfl
@[simp] theorem State.armStation_pending (s : State) : (s.armStation).pending = s.pending := rfl
@[simp] theorem State.armStation_cfg (s : State) : (s.armStation).cfg = s.cfg := rfl

/-! ### `State.leaveRun` -/

@[simp] theorem State.leaveRun_resetn (x : StationState) (s : State) : (s.leaveRun x).resetn = s.resetn := rfl
@[simp] theorem State.leaveRun_timer (x : StationState) (s : State) : (s.leaveRun x).timer = s.timer := rfl
@[simp] theorem State.leaveRun_sensor (x : StationState) (s : State) : (s.leaveRun x).sensor = s.sensor := rfl
@[simp] theorem State.leaveRun_results (x : StationState) (s : State) : (s.leaveRun x).results = s.results := rfl
@[simp] theorem State.leaveRun_ring (x : StationState) (s : State) : (s.leaveRun x).ring = s.ring := rfl
@[simp] theorem State.leaveRun_port (x : StationState) (s : State) : (s.leaveRun x).port = s.port := rfl
@[simp] theorem State.leaveRun_draws (x : StationState) (s : State) : (s.leaveRun x).draws = s.draws := rfl
@[simp] theorem State.leaveRun_pending (x : StationState) (s : State) : (s.leaveRun x).pending = s.pending := rfl
@[simp] theorem State.leaveRun_cfg (x : StationState) (s : State) : (s.leaveRun x).cfg = s.cfg := rfl

/-! ### `State.setAlert` -/

@[simp] theorem State.setAlert_resetn (a : Alert) (s : State) : (s.setAlert a).resetn = s.resetn := rfl
@[simp] theorem State.setAlert_timer (a : Alert) (s : State) : (s.setAlert a).timer = s.timer := rfl
@[simp] theorem State.setAlert_odo (a : Alert) (s : State) : (s.setAlert a).odo = s.odo := rfl
@[simp] theorem State.setAlert_pacer (a : Alert) (s : State) : (s.setAlert a).pacer = s.pacer := rfl
@[simp] theorem State.setAlert_bus (a : Alert) (s : State) : (s.setAlert a).bus = s.bus := rfl
@[simp] theorem State.setAlert_sensor (a : Alert) (s : State) : (s.setAlert a).sensor = s.sensor := rfl
@[simp] theorem State.setAlert_window (a : Alert) (s : State) : (s.setAlert a).window = s.window := rfl
@[simp] theorem State.setAlert_results (a : Alert) (s : State) : (s.setAlert a).results = s.results := rfl
@[simp] theorem State.setAlert_ring (a : Alert) (s : State) : (s.setAlert a).ring = s.ring := rfl
@[simp] theorem State.setAlert_tracker (a : Alert) (s : State) : (s.setAlert a).tracker = s.tracker := rfl
@[simp] theorem State.setAlert_marker (a : Alert) (s : State) : (s.setAlert a).marker = s.marker := rfl
@[simp] theorem State.setAlert_control (a : Alert) (s : State) : (s.setAlert a).control = s.control := rfl
@[simp] theorem State.setAlert_port (a : Alert) (s : State) : (s.setAlert a).port = s.port := rfl
@[simp] theorem State.setAlert_draws (a : Alert) (s : State) : (s.setAlert a).draws = s.draws := rfl
@[simp] theorem State.setAlert_pending (a : Alert) (s : State) : (s.setAlert a).pending = s.pending := rfl
@[simp] theorem State.setAlert_cfg (a : Alert) (s : State) : (s.setAlert a).cfg = s.cfg := rfl
@[simp] theorem State.setAlert_armed (a : Alert) (s : State) : (s.setAlert a).armed = s.armed := rfl
@[simp] theorem State.setAlert_post (a : Alert) (s : State) : (s.setAlert a).post = s.post := rfl

end Sys2Proof.Machine
end

