-- ==== Sys2Proof/Laws/Transactions.lean ====
section
/-! SUPPORT. What taking a command of the recorder can do, by the station state. -/

namespace Sys2Proof.Machine

/-! ### Clocking bytes in -/

/-- The station that takes transactions is not in a void select. -/
theorem State.takesTransactions.void_eq {s : State} (h : s.takesTransactions) : s.port.void = false := by
  rw [Port.void]
  cases hs : s.port.selected with
  | false => rfl
  | true =>
    have := h.2 hs
    cases ht : s.port.transaction <;> simp_all

/-- What clocking bytes in can do: nothing in a void select; with too few parameters the bytes are kept; else the command
is taken with the parameters it takes. -/
theorem clockIn_cases (code : Byte) (params : List Byte) (keeps : Bool) (body : List Byte → State → Reply × State)
    (s : State) :
    (s.port.void = true ∧ clockIn code params keeps body s = s) ∨
    (s.port.void = false ∧ params.length < paramCount code ∧
      clockIn code params keeps body s = s.receiveOnly (code :: params)) ∨
    (s.port.void = false ∧ paramCount code ≤ params.length ∧
      clockIn code params keeps body s =
        takeCommand (code :: params.take (paramCount code)) keeps (body (params.take (paramCount code))) s) := by
  simp only [clockIn]
  cases s.port.void with
  | true => exact .inl ⟨rfl, rfl⟩
  | false =>
    by_cases h : params.length < paramCount code
    · exact .inr (.inl ⟨rfl, h, by simp [h]⟩)
    · exact .inr (.inr ⟨rfl, by omega, by simp [h]⟩)

/-- A complete command is taken whole. -/
theorem clockIn_whole {s : State} (h : s.takesTransactions) {code : Byte} {params : List Byte}
    (whole : params.length = paramCount code) (keeps : Bool) (body : List Byte → State → Reply × State) :
    clockIn code params keeps body s = takeCommand (code :: params) keeps (body params) s := by
  simp only [clockIn, h.void_eq, List.take_of_length_le (le_of_eq whole), whole]; simp

/-! ### Taking a command -/

/-- Outside SELF_TEST and FAULT a command is answered by its own meaning. -/
theorem gated_open {s : State} (test : s.control.station ≠ .selfTest) (fault : s.control.station ≠ .fault)
    (inFault : Bool) (body : State → Reply × State) : gated inFault body s = body s := by
  rw [gated]; cases h : s.control.station <;> first | rfl | exact absurd h test | exact absurd h fault

theorem takeCommand_open {s : State} (test : s.control.station ≠ .selfTest) (fault : s.control.station ≠ .fault)
    (received : List Byte) (keeps inFault : Bool) (body : State → Reply × State) :
    takeCommand received keeps (gated inFault body) s = takeCommand received keeps body s := by
  simp only [takeCommand]; rw [gated_open] <;> cases keeps <;> assumption

/-- In SELF_TEST a command is answered BUSY. -/
theorem takeCommand_selfTest {s : State} (h : s.control.station = .selfTest) (received : List Byte)
    (keeps inFault : Bool) (body : State → Reply × State) :
    takeCommand received keeps (gated inFault body) s =
      s.answering received [1] .plain (if keeps then s.port.window else none) := by
  have e : (if keeps = true then s.endTransaction else s.endTransaction.cancelWindow).control.station = .selfTest := by
    cases keeps <;> exact h
  simp only [takeCommand, gated, e]; cases keeps <;> rfl

/-- In FAULT a command that is not answered there is answered WRONG_STATE. -/
theorem takeCommand_fault {s : State} (h : s.control.station = .fault) (received : List Byte) (keeps : Bool)
    (body : State → Reply × State) :
    takeCommand received keeps (gated false body) s =
      s.answering received [2] .plain (if keeps then s.port.window else none) := by
  have e : (if keeps = true then s.endTransaction else s.endTransaction.cancelWindow).control.station = .fault := by
    cases keeps <;> exact h
  simp only [takeCommand, gated, e]; cases keeps <;> rfl

/-- A command that does not keep the window is answered from the state with an empty port. -/
theorem takeCommand_plain (received : List Byte) (body : State → Reply × State) (s : State) :
    takeCommand received false body s =
      (body { s with port := Port.initial }).2.respond received
        (body { s with port := Port.initial }).1 := rfl

/-- A command that keeps the window is answered from the state with no transaction. -/
theorem takeCommand_keeping (received : List Byte) (body : State → Reply × State) (s : State) :
    takeCommand received true body s =
      (body s.endTransaction).2.respond received
        (body s.endTransaction).1 := rfl

end Sys2Proof.Machine
end

