-- ==== Sys2Proof/Laws/Step.lean ====
section
/-! SUPPORT. Once for all commands: what a step can do to the state. A property of the state that survives each of the
updates listed in `Keeps` survives every command and every step. -/

namespace Sys2Proof.Machine

/-- The property does not look at the Recorder Port. -/
def PortFree (P : State → Prop) : Prop := ∀ s port, P s → P { s with port }

/-- The updates of the state that the commands are made of, each with what its command has tested before. -/
structure Keeps (P : State → Prop) : Prop where
  port : PortFree P
  drawn : ∀ s, P s → P s.drawn
  pending : ∀ s pending, P s → P { s with pending }
  holdReset : ∀ s, P s → P s.holdReset
  powerOn : ∀ a b c s, P s → P (s.powerOn a b c)
  endSelfTest : ∀ failed s, s.control.station = .selfTest → P s → P (s.endSelfTest failed)
  edge : ∀ line s, P s → P ({ s with odo := s.odoAfterEdge line }.testRequest)
  bothLines : ∀ s, P s → P { s with odo := { s.odo with tacA := !s.odo.tacA, tacB := !s.odo.tacB } }
  burst : ∀ levels gapBefore s, P s → P { s with sensor := s.sensor.gap levels gapBefore s.timer }
  elapse : ∀ n s, P s → P (s.elapse n)
  idleGap : ∀ s, P s → P s.idleGap
  lose : ∀ bit s, P s → P (s.loseArbitration bit)
  abort : ∀ bit s, P s → P (s.abortFrame bit)
  markSent : ∀ s, P s → P s.markSent
  sampleSent : ∀ s, P s → P s.sampleSent
  adoptMark : ∀ n s, s.receives = true → s.armed = true → s.mayAdopt n = true → P s → P (s.adoptMark n)
  conflict : ∀ s, P s → P s.countConflict
  crcError : ∀ s, P s → P s.countCrcError
  duplicate : ∀ s, P s → P s.countDuplicateStation
  takeSample : ∀ sender n x s, s.receives = true → s.armed = true → 1 ≤ n → n ≤ maxPost → sender ≠ s.cfg.station →
    x.inRange → P s → P (s.takeSample sender n x)
  accept : ∀ b s, s.control.station = .unconfigured → judgeBlock b = .none → b.length = 183 → P s → P (s.acceptBlock b)
  refuse : ∀ b s, s.control.station = .unconfigured → P s → P (s.refuseBlock (judgeBlock b))
  arm : ∀ s, s.control.station = .configured → P s → P s.armStation
  disarm : ∀ s, s.armed = true → P s → P (s.leaveRun .configured)
  resync : ∀ s, s.armed = true → P s → P { s.leaveRun .joining with ring := [] }
  recordOut : ∀ s, P s → P { s with results := { s.results with fifo := s.results.fifo.drop 1 } }
  runOut : ∀ s, P s → P { s with tracker := { s.tracker with queue := s.tracker.queue.drop 1 } }
  alert : ∀ a s, P s → P (s.setAlert a)

theorem PortFree.command {P : State → Prop} (free : PortFree P) (received : List Byte) (keeps : Bool)
    (body : State → Reply × State) (answer : ∀ s, P s → P (body s).2) (s : State) (h : P s) :
    P (takeCommand received keeps body s) := by
  simp only [takeCommand]
  refine free _ _ (answer _ ?_)
  cases keeps
  · exact free _ _ (free _ _ h)
  · exact free _ _ h

/-- A property that no answer ends survives a transaction, whatever bytes are clocked in. -/
theorem PortFree.clockIn {P : State → Prop} (free : PortFree P) (code : Byte) (params : List Byte) (keeps : Bool)
    (body : List Byte → State → Reply × State)
    (answer : ∀ p s, p.length = paramCount code → P s → P (body p s).2) (s : State) (h : P s) :
    P (Machine.clockIn code params keeps body s) := by
  simp only [Machine.clockIn]
  split
  · exact h
  · split
    · exact free _ _ h
    · exact free.command _ _ _ (fun s h => answer _ s (by rw [List.length_take]; omega) h) s h

theorem PortFree.gatedClockIn {P : State → Prop} (free : PortFree P) (code : Byte) (params : List Byte)
    (keeps inFault : Bool) (body : List Byte → State → Reply × State)
    (answer : ∀ p s, p.length = paramCount code → P s → P (body p s).2) (s : State) (h : P s) :
    P (Machine.clockIn code params keeps (fun p => gated inFault (body p)) s) := by
  refine free.clockIn code params keeps _ (fun p s hp h => ?_) s h
  rw [gated]
  have answer := fun s => answer p s hp
  split
  · exact h
  · split
    · exact answer s h
    · exact h
  all_goals exact answer s h

/-- A field of sixteen bits in two's complement lies in the range of a displacement count. -/
theorem toInt16_range (x : Half) : -32768 ≤ x.toInt ∧ x.toInt ≤ 32767 := by
  have := BitVec.le_toInt x
  have := BitVec.toInt_lt (x := x)
  constructor <;> simp at * <;> omega

/-- A value a frame carries is absent or in range. -/
theorem fieldValue_range (f : SampleFrame) (i : Nat) (x : Half) : optInRange (fieldValue f i x) := by
  intro v hv
  simp only [fieldValue] at hv
  split at hv
  · cases hv; exact toInt16_range x
  · cases hv

/-- The sample a frame carries is in range. -/
theorem frameSample_range (f : SampleFrame) : (frameSample f).inRange :=
  ⟨fieldValue_range _ _ _, fieldValue_range _ _ _, fieldValue_range _ _ _, fieldValue_range _ _ _⟩

/-- A predicate that every update keeps is kept by every command. -/
theorem Keeps.exec {P : State → Prop} (k : Keeps P) (c : Instr) (s t : State) (hs : P s) (h : exec c s = .next t) : P t := by
  have pow : ∀ f : State → State, (∀ s, P s → P (f s)) → P (s.powered f) := by
    intro f hf; rw [State.powered]; split
    · exact hf s hs
    · exact hs
  cases c with
  | powerOnReset => cases h; exact k.holdReset s hs
  | resetnRelease l d =>
    cases h
    show P (if s.resetn then s else s.powerOn l.tacA l.tacB d)
    split
    · exact hs
    · exact k.powerOn _ _ d s hs
  | selfTestEnd f =>
    cases h
    refine pow _ fun s hs => ?_
    split
    · exact k.endSelfTest f s (by assumption) hs
    · exact hs
  | tachEdge l => cases h; exact pow _ (k.edge l)
  | burstEnd b g => cases h; exact pow _ (k.burst _ g)
  | stale =>
    cases h
    refine pow _ fun s hs => ?_
    split
    · exact k.elapse _ s hs
    · exact hs
  | busIdleGap => cases h; exact pow _ k.idleGap
  | arbitrationLost b => cases h; exact pow _ (k.lose b)
  | transmitError b => cases h; exact pow _ (k.abort b)
  | ownMarkCompletion => cases h; exact pow _ k.markSent
  | ownSampleSent => cases h; exact pow _ k.sampleSent
  | markFrame f =>
    cases h
    refine pow _ fun s hs => ?_
    rw [State.receiveMark]
    split
    · exact hs
    · rename_i hrec
      split
      · rw [State.takeMark]; split
        · exact hs
        · rename_i ha
          split
          · exact k.adoptMark _ s (by simpa using hrec) (by simpa using ha) (by assumption) hs
          · exact k.conflict s hs
      · exact k.crcError s hs
  | sampleFrame f =>
    cases h
    refine pow _ fun s hs => ?_
    rw [State.receiveSample]
    split
    · exact hs
    · rename_i hrec
      split
      · rw [State.disposeSample]; split
        · exact hs
        · rename_i ha
          split
          · exact k.duplicate s hs
          · split
            · exact k.crcError s hs
            · exact k.takeSample _ _ _ s (by simpa using hrec) (by simpa using ha) (by omega) (by omega)
                (by assumption) (frameSample_range f) hs
      · exact k.crcError s hs
  | valveExpiry x => cases h; exact pow _ fun s => k.elapse _ s
  | identify => cases h; exact pow _ (k.port.clockIn _ _ _ _ (fun _ s _ h => k.drawn s h))
  | readStatus => cases h; exact pow _ (k.port.gatedClockIn _ _ _ _ _ (fun _ s _ h => k.drawn s h))
  | loadConfig b =>
    cases h
    refine pow _ (k.port.gatedClockIn _ _ _ _ _ fun b s length hs => ?_)
    rw [answerLoadConfig]
    split
    · split
      · exact k.accept _ s (by assumption) (by assumption) length hs
      · exact k.refuse _ s (by assumption) hs
    · exact hs
  | arm =>
    cases h
    refine pow _ (k.port.gatedClockIn _ _ _ _ _ fun p s _ hs => ?_)
    rw [answerArm]
    split
    · exact k.arm s (by assumption) hs
    · exact hs
  | disarm =>
    cases h
    refine pow _ (k.port.gatedClockIn _ _ _ _ _ fun p s _ hs => ?_)
    rw [answerDisarm]
    split
    · exact k.disarm s (by assumption) hs
    · exact hs
  | resync =>
    cases h
    refine pow _ (k.port.gatedClockIn _ _ _ _ _ fun p s _ hs => ?_)
    rw [answerResync]
    split
    · exact k.resync s (by assumption) hs
    · exact hs
  | takeResults n =>
    cases h
    refine pow _ (k.port.gatedClockIn _ _ _ _ _ fun p s _ hs => ?_)
    simp only [answerTakeResults]
    split
    · exact hs
    · exact hs
  | recordShiftedOut =>
    cases h
    refine pow _ fun s hs => ?_
    rw [State.recordOut]; split
    · split
      · exact k.port _ _ (k.recordOut s hs)
      · exact hs
    · exact hs
  | takeRuns n =>
    cases h
    refine pow _ (k.port.gatedClockIn _ _ _ _ _ fun p s _ hs => ?_)
    simp only [answerTakeRuns]
    split
    · exact hs
    · exact hs
  | runShiftedOut =>
    cases h
    refine pow _ fun s hs => ?_
    rw [State.runOut]; split
    · split
      · exact k.port _ _ (k.runOut s hs)
      · exact hs
    · exact hs
  | acknowledge =>
    cases h
    refine pow _ (k.port.gatedClockIn _ _ _ _ _ fun p s _ hs => ?_)
    rw [answerAcknowledge]
    split
    · exact hs
    · exact k.alert _ s hs
  | endService w =>
    cases h; refine pow _ (k.port.gatedClockIn _ _ _ _ _ fun p s _ hs => ?_); rw [answerEndService]; split
    · exact hs
    · split
      · exact hs
      · exact k.alert _ s hs
  | setMask m => cases h; exact pow _ (k.port.gatedClockIn _ _ _ _ _ fun p s _ hs => k.alert _ s hs)
  | setModes m => cases h; exact pow _ (k.port.gatedClockIn _ _ _ _ _ fun p s _ hs => k.alert _ s hs)
  | clearPending w =>
    cases h
    refine pow _ (k.port.gatedClockIn _ _ _ _ _ fun p s _ hs => ?_)
    rw [answerClearPending]
    split
    · exact hs
    · exact k.alert _ s hs
  | historyWindow a b =>
    cases h
    refine pow _ (k.port.gatedClockIn _ _ _ _ _ fun p s _ hs => ?_)
    rw [answerHistoryWindow]
    split
    · exact k.port _ _ hs
    · exact hs
  | historyRead n =>
    cases h; refine pow _ (k.port.gatedClockIn _ _ _ _ _ fun p s _ hs => ?_); rw [answerHistoryRead]; split
    · exact hs
    · split <;> exact hs
  | historyEntryLookup =>
    cases h
    refine pow _ fun s hs => ?_
    rw [State.lookUpEntry]; split
    · split
      · exact k.port _ _ hs
      · exact hs
    · exact hs
  | historyEntryShiftedOut =>
    cases h
    refine pow _ fun s hs => ?_
    rw [State.entryOut]; split
    · split
      · exact k.port _ _ (k.port _ _ hs)
      · exact hs
    · exact hs
  | unknownCommand code =>
    cases h
    refine pow _ fun s hs => ?_
    split
    · exact hs
    · exact k.port.clockIn _ _ _ _ (fun _ s _ hs => hs) s hs
  | deselect => cases h; exact pow _ fun s hs => k.port _ _ hs
  | bothLinesChanged => cases h; exact pow _ k.bothLines

/-- A predicate that every update keeps is kept by every step. -/
theorem Keeps.step {P : State → Prop} (k : Keeps P) (s t : State) (hs : P s) (h : step s = .next t) : P t := by
  rw [Machine.step] at h
  split at h
  · cases h; exact k.elapse 1 s hs
  · exact k.exec _ _ t (k.pending s _ hs) h

end Sys2Proof.Machine
end

