-- ==== Sys2Proof/Laws/SelfTest.lean ====
section
/-! SUPPORT. The sensor receiver and SELF_TEST: every command and every step keeps the receiver off exactly in SELF_TEST. -/

namespace Sys2Proof.Machine

/-- The sensor receiver takes in nothing exactly in SELF_TEST (R52, R66), in which no mark is asked for
or being sent (R10, R47). -/
structure State.TestsQuietly (s : State) : Prop where
  receiver : s.sensor.receiver = .off ↔ s.control.station = .selfTest
  silent : s.control.station = .selfTest →
    s.bus.slot = none ∧ ∀ f, s.bus.sending ≠ some { frame := .mark f, owned := true }

theorem State.armed_not_selfTest {s : State} (h : s.armed = true) : s.control.station ≠ .selfTest := by
  rcases (State.armed_iff s).1 h with h | h <;> simp [h]

/-- Judging bursts leaves the framing state of the receiver. -/
@[simp] theorem Sensor.judgeAll_receiver (bursts : List (List RxByte)) (time : Nat) (x : Sensor) :
    (x.judgeAll bursts time).receiver = x.receiver := by
  induction bursts generalizing x with
  | nil => rfl
  | cons b rest ih =>
    refine (ih (x.judge b time)).trans ?_
    unfold Sensor.judge
    split <;> rfl

/-- A receiver that is off stays off, and no other is turned off. -/
theorem Sensor.gap_off (levels : List Bool) (gapBefore : Bool) (time : Nat) (x : Sensor) :
    (x.gap levels gapBefore time).receiver = .off ↔ x.receiver = .off := by
  rw [Sensor.gap]
  split
  · simp_all
  · split <;> simp_all
  · simp_all

/-- An update from a state outside SELF_TEST to one outside it that leaves the receiver. -/
theorem State.TestsQuietly.outside {s t : State} (h : s.TestsQuietly) (before : s.control.station ≠ .selfTest)
    (receiver : t.sensor.receiver = s.sensor.receiver) (after : t.control.station ≠ .selfTest) : t.TestsQuietly :=
  ⟨by rw [receiver, h.receiver]; exact iff_of_false before after, fun e => absurd e after⟩

/-- An update of the bus alone that gives it no mark to send. -/
theorem State.TestsQuietly.withBus {s : State} (h : s.TestsQuietly) (bus : Bus)
    (silent : s.control.station = .selfTest → bus.slot = none ∧ ∀ f, bus.sending ≠ some { frame := .mark f, owned := true }) :
    State.TestsQuietly { s with bus } := ⟨h.receiver, silent⟩

theorem keeps_testsQuietly : Keeps State.TestsQuietly := by
  constructor
  case port => exact fun s p h => ⟨h.receiver, h.silent⟩
  case drawn | pending | bothLines | elapse | conflict | crcError | duplicate | recordOut | runOut | alert =>
    intros; rename_i h; exact ⟨h.receiver, h.silent⟩
  case holdReset => exact fun s h => ⟨h.receiver, fun e => ⟨(h.silent e).1, nofun⟩⟩
  case powerOn => exact fun a b c s _ => ⟨iff_of_true rfl rfl, fun _ => ⟨rfl, nofun⟩⟩
  case endSelfTest =>
    intro f s hs h
    have : (s.endSelfTest f).control.station ≠ .selfTest := by simp only [State.endSelfTest]; split <;> simp
    exact ⟨iff_of_false (by simp [State.endSelfTest]) this, fun e => absurd e this⟩
  case edge =>
    intro line s h
    refine ⟨h.receiver, fun e => ?_⟩
    have quiet := h.silent e
    have idle : s.armed = false := by
      cases ha : s.armed
      · rfl
      · exact absurd e (State.armed_not_selfTest ha)
    have : ({ s with odo := s.odoAfterEdge line } : State).mayRequest = false := by
      rw [State.mayRequest, show ({ s with odo := s.odoAfterEdge line } : State).armed = false from idle]; simp
    exact ⟨by simp [State.testRequest, this, quiet.1], quiet.2⟩
  case burst => exact fun l g s h => ⟨(Sensor.gap_off l g s.timer s.sensor).trans h.receiver, h.silent⟩
  case idleGap =>
    intro s h
    refine ⟨h.receiver, fun e => ?_⟩
    have quiet := h.silent e
    refine ⟨quiet.1, fun f => ?_⟩
    simp only [State.idleGap, State.nextFrame, quiet.1]
    split
    · split <;> simp
    · exact quiet.2 f
  case lose =>
    intro b s h
    unfold State.loseArbitration
    repeat' split
    all_goals first | exact h | exact h.withBus _ fun e => ⟨(h.silent e).1, nofun⟩
  case abort =>
    intro b s h
    unfold State.abortFrame
    repeat' split
    all_goals first
      | exact h
      | exact h.withBus _ fun e => by unfold Bus.countError; split <;> simp [(h.silent e).1]
  case markSent =>
    intro s h
    unfold State.markSent
    split
    · rename_i hs
      exact h.outside (fun e => (h.silent e).2 _ hs) (by simp) (by simp [State.completeMark])
    · exact h.withBus _ fun e => ⟨(h.silent e).1, nofun⟩
    · exact h
  case sampleSent =>
    intro s h
    unfold State.sampleSent
    split
    · exact h.withBus _ fun e => ⟨(h.silent e).1, nofun⟩
    · exact h.withBus _ fun e => ⟨(h.silent e).1, nofun⟩
    · exact h
  case adoptMark => exact fun n s _ ha _ h => h.outside (State.armed_not_selfTest ha) (by simp) nofun
  case takeSample =>
    intro i n x s _ ha _ _ _ _ h
    have before := State.armed_not_selfTest ha
    unfold State.takeSample
    split
    · exact h.outside before (by simp) nofun
    · split
      · split
        · exact h.outside before (by simp) (by simpa using before)
        · exact ⟨h.receiver, h.silent⟩
      · exact ⟨h.receiver, h.silent⟩
  case accept => exact fun b s hs _ _ h => h.outside (by simp [hs]) rfl (by simp [State.acceptBlock])
  case refuse => exact fun b s hs h => h.outside (by simp [hs]) rfl (by simp [State.refuseBlock, hs])
  case arm => exact fun s hs h => h.outside (by simp [hs]) rfl (by simp [State.armStation])
  case disarm | resync => exact fun s hs h => h.outside (State.armed_not_selfTest hs) rfl (by simp [State.leaveRun])

/-- The invariant has it. -/
theorem State.Inv.testsQuietly {s : State} (h : s.Inv) (high : s.resetn = true) : s.TestsQuietly := by
  have slot : s.control.station = .selfTest → s.bus.slot = none := fun e => by
    cases hs : s.bus.slot with
    | none => rfl
    | some k => exact absurd e (State.armed_not_selfTest ((h.bus high).slot k hs).1)
  refine ⟨(h.control high).receiver, fun e => ⟨slot e, fun f hf => ?_⟩⟩
  obtain ⟨k, hk, -⟩ := (h.bus high).mark f hf
  rw [slot e] at hk
  cases hk

/-- The step lemma: every step keeps the receiver off exactly in SELF_TEST. -/
theorem step_testsQuietly (s t : State) (h : s.TestsQuietly) (next : step s = .next t) : t.TestsQuietly :=
  keeps_testsQuietly.step s t h next

end Sys2Proof.Machine
end

