-- ==== Sys2Proof/Laws/Sensor.lean ====
section
/-! SUPPORT. What the receiver of SDATA does with a byte and with a stretch of high or low line (R49), and what a good
burst is (R50). -/

namespace Sys2Proof

/-- A byte as it is on the line joins the burst in progress. -/
theorem burstsFrom_byte (gap : Nat) (bytes : List RxByte) (x : RxByte) (rest : List Bool) :
    burstsFrom true gap bytes (false :: (List.range 8).map x.data.getLsbD ++ [x.stopHigh] ++ rest) =
      burstsFrom x.stopHigh 0 (bytes ++ [x]) rest := by
  have whole : ∀ d : BitVec 8, BitVec.ofBoolListLE [d.getLsbD 0, d.getLsbD 1, d.getLsbD 2, d.getLsbD 3, d.getLsbD 4,
      d.getLsbD 5, d.getLsbD 6, d.getLsbD 7] = d := by decide +kernel
  exact congrArg (fun d => burstsFrom x.stopHigh 0 (bytes ++ [{ data := d, stopHigh := x.stopHigh }]) rest) (whole x.data)

/-- A stretch of high line that does not complete an idle gap. -/
theorem burstsFrom_short_gap (high : Bool) (n gap : Nat) (bytes : List RxByte) (rest : List Bool) (short : gap + n < 20)
    (some : 0 < n) :
    burstsFrom high gap bytes (List.replicate n true ++ rest) = burstsFrom true (gap + n) bytes rest := by
  induction n generalizing high gap with
  | zero => omega
  | succ n ih =>
    have : ¬ 19 ≤ gap := by omega
    simp only [List.replicate_succ, List.cons_append, burstsFrom, this, decide_false, Bool.false_and, Bool.false_eq_true,
      if_false]
    rcases Nat.eq_zero_or_pos n with rfl | pos
    · rfl
    · rw [ih true (gap + 1) (by omega) pos, Nat.add_right_comm, Nat.add_assoc]

/-- Twenty bit times of high line after a byte end the burst. -/
theorem burstsFrom_idle_gap (high : Bool) (bytes : List RxByte) (rest : List Bool) (held : bytes ≠ []) :
    burstsFrom high 0 bytes (List.replicate 20 true ++ rest) = bytes :: sdataBursts rest := by
  rw [show List.replicate 20 true ++ rest = List.replicate 19 true ++ (true :: rest) from rfl,
    burstsFrom_short_gap high 19 0 bytes _ (by decide) (by decide)]
  simp [burstsFrom, held, sdataBursts]

/-- A line held low after a low stop bit makes no byte and completes no gap. -/
theorem burstsFrom_held_low (n : Nat) (bytes : List RxByte) (rest : List Bool) :
    burstsFrom false 0 bytes (List.replicate n false ++ rest) = burstsFrom false 0 bytes rest := by
  induction n with
  | zero => rfl
  | succ n ih => simpa [List.replicate_succ, burstsFrom] using ih

/-- Nothing more on the line: the burst in progress has not ended. -/
@[simp] theorem burstsFrom_nil (high : Bool) (gap : Nat) (bytes : List RxByte) : burstsFrom high gap bytes [] = [] := by
  cases high <;> rfl

/-- Levels without a stretch of 20 high bit times complete no idle gap. -/
theorem afterIdleGap_none (n : Nat) (levels : List Bool) (short : n ≤ 19)
    (noGap : ∀ p q, List.replicate n true ++ levels ≠ p ++ List.replicate 20 true ++ q) : afterIdleGap n levels = none := by
  induction levels generalizing n with
  | nil => rfl
  | cons level rest ih =>
    cases level with
    | true =>
      have next : List.replicate n true ++ true :: rest = List.replicate (n + 1) true ++ rest := by
        rw [List.replicate_succ', List.append_assoc]; rfl
      have more : ¬ 19 ≤ n := by
        intro full
        obtain rfl : n = 19 := by omega
        exact noGap [] rest (by rw [next]; rfl)
      simp only [afterIdleGap, more, if_false]
      exact ih (n + 1) (by omega) fun p q h => noGap p q (next.trans h)
    | false =>
      refine ih 0 (by omega) fun p q h => noGap (List.replicate n true ++ false :: p) q ?_
      simp only [List.replicate_zero, List.nil_append] at h
      simp [h]

/-- The first stretch of 20 high bit times is the idle gap that counts. -/
theorem afterIdleGap_first (n : Nat) (levels before rest : List Bool) (short : n ≤ 19)
    (split : List.replicate n true ++ levels = before ++ List.replicate 20 true ++ rest)
    (first : ∀ p q, before ++ List.replicate 19 true ≠ p ++ List.replicate 20 true ++ q) :
    afterIdleGap n levels = some rest := by
  induction levels generalizing n before with
  | nil =>
    have := congrArg List.length split
    simp at this
    omega
  | cons level tail ih =>
    cases level with
    | true =>
      have next : List.replicate n true ++ true :: tail = List.replicate (n + 1) true ++ tail := by
        rw [List.replicate_succ', List.append_assoc]; rfl
      rw [next] at split
      by_cases full : 19 ≤ n
      · obtain rfl : n = 19 := by omega
        simp only [afterIdleGap, Nat.le_refl, if_true]
        rcases before with _ | ⟨b, before⟩
        · simp only [List.nil_append] at split
          rw [List.append_cancel_left split]
        · have whole : List.replicate 20 true ++ tail = (b :: before ++ List.replicate 19 true) ++ true :: rest := by
            rw [split]; simp [List.replicate_succ]
          rcases List.append_eq_append_iff.1 whole with ⟨q, h, -⟩ | ⟨q, h, -⟩
          · exact absurd h (first [] q)
          · have length := congrArg List.length h
            simp only [List.length_append, List.length_cons, List.length_replicate] at length
            obtain rfl : q = [] := List.eq_nil_of_length_eq_zero (by omega)
            exact absurd (by simpa using h.symm) (first [] [])
      · simp only [afterIdleGap, full, if_false]
        exact ih (n + 1) before (by omega) split first
    | false =>
      rw [List.append_assoc] at split
      rcases List.append_eq_append_iff.1 split with ⟨q, rfl, h⟩ | ⟨q, h, low⟩
      · rcases q with _ | ⟨b, q⟩
        · simp [List.replicate_succ] at h
        · obtain ⟨rfl, h⟩ := List.cons.inj h
          refine ih 0 q (by omega) (by simpa using h) fun p r h' => first (List.replicate n true ++ false :: p) r ?_
          simp only [List.append_assoc, List.cons_append] at h' ⊢
          rw [h']
      · have length := congrArg List.length h
        simp only [List.length_replicate, List.length_append] at length
        have at' := congrArg (fun l => l[q.length]?) low
        simp only [List.getElem?_append_right (Nat.le_refl _)] at at'
        rw [List.getElem?_append_left (by simp; omega), List.getElem?_replicate, if_pos (by omega)] at at'
        simp at at'

/-- The four conditions of a good frame (R50). -/
theorem Machine.goodBurst_iff (bytes : List RxByte) : Machine.goodBurst bytes = true ↔
    bytes.length = 13 ∧ (∀ x ∈ bytes, x.stopHigh = true) ∧ bytes.head?.map RxByte.data = some 166#8 ∧
      (bytes.map fun x => x.data.toNat).sum % 256 = 0 := by
  simp only [Machine.goodBurst, Bool.and_eq_true, beq_iff_eq, List.all_eq_true, List.head?_map, and_assoc]
  rfl

end Sys2Proof
end

