-- ==== Sys2Proof/Laws/Tracking.lean ====
section
/-! SUPPORT. What the operations of the Exceedance Tracker, the Run Queue and the Marker Scheduler can do: frames of
each operation, and a principle that carries a property of the three blocks through the evaluation of a record. -/

namespace Sys2Proof.Machine

/-! ### Marking requests -/

/-- A request changes the marker queue and the raised edges alone. -/
theorem requestMark_frame (e : TrackEnv) (x : Nozzle) (target : Int) (t : Tracks) :
    ∃ queue edges, (requestMark e x target t).2 =
      { t with marker := { t.marker with queue }, alert := { t.alert with edges } } := by
  simp only [requestMark]
  cases e.cfg.nozzle x with
  | none => exact ⟨_, _, rfl⟩
  | some n => exact ⟨_, _, rfl⟩

theorem requestMark_tracker (e : TrackEnv) (x : Nozzle) (target : Int) (t : Tracks) :
    (requestMark e x target t).2.tracker = t.tracker := by
  obtain ⟨_, _, h⟩ := requestMark_frame e x target t; rw [h]

/-- The marker queue after a request: unchanged, or with one action inserted, which lies ahead of the current post, is
for a fitted nozzle, was not queued, and had room. -/
theorem requestMark_queue (e : TrackEnv) (x : Nozzle) (target : Int) (t : Tracks) :
    (requestMark e x target t).2.marker.queue = t.marker.queue ∨
    ∃ due : Nat, (requestMark e x target t).2.marker.queue = insertAction { due, nozzle := x } t.marker.queue ∧
      e.current < due ∧ due ≤ maxPost ∧ (e.cfg.nozzle x).isSome = true ∧ t.marker.queue.length < 16 ∧
      ({ due, nozzle := x } : MarkAction) ∉ t.marker.queue := by
  simp only [requestMark]
  cases h : e.cfg.nozzle x with
  | none => exact .inl rfl
  | some n =>
    simp only [markQueue]
    by_cases hs : markAnswer e.cfg e.current x n target t.marker = .scheduled
    · right
      rw [if_pos hs]
      simp only [markAnswer] at hs
      split at hs
      · cases hs
      · split at hs
        · cases hs
        · split at hs
          · cases hs
          · split at hs
            · cases hs
            · rename_i h1 h2 h3 h4
              refine ⟨_, rfl, ?_, ?_, rfl, by omega, ?_⟩
              · omega
              · simp only [maxPost] at h3 ⊢; omega
              · intro hm
                apply h2
                rw [List.any_eq_true]
                refine ⟨_, hm, ?_⟩
                simp; omega
    · left; rw [if_neg hs]

theorem requestWhen_tracker (e : TrackEnv) (due : Bool) (x : Nozzle) (target : Int) (p : OpenRun × Tracks) :
    (requestWhen e due x target p).2.tracker = p.2.tracker := by
  cases due
  · rfl
  · exact requestMark_tracker _ _ _ _

/-- A request writes only its answer into the run. -/
theorem requestWhen_run (e : TrackEnv) (due : Bool) (x : Nozzle) (target : Int) (p : OpenRun × Tracks) :
    ∃ left right, (requestWhen e due x target p).1 = { p.1 with left, right } := by
  cases due
  · exact ⟨_, _, rfl⟩
  · cases x
    · exact ⟨_, _, rfl⟩
    · exact ⟨_, _, rfl⟩

theorem startRequests_tracker (e : TrackEnv) (i : Fin 8) (before : Nat) (p : OpenRun × Tracks) :
    (startRequests e i before p).2.tracker = p.2.tracker := by
  simp only [startRequests, requestWhen_tracker]

theorem startRequests_run (e : TrackEnv) (i : Fin 8) (before : Nat) (p : OpenRun × Tracks) :
    ∃ left right, (startRequests e i before p).1 = { p.1 with left, right } := by
  obtain ⟨l, r, h⟩ := requestWhen_run e (startDue e.cfg i before p.1.cls .left) .left p.1.start p
  obtain ⟨l', r', h'⟩ := requestWhen_run e (startDue e.cfg i before p.1.cls .right) .right p.1.start
    (requestWhen e (startDue e.cfg i before p.1.cls .left) .left p.1.start p)
  exact ⟨l', r', by simp only [startRequests]; rw [h', h]⟩

theorem peakRequests_tracker (e : TrackEnv) (i : Fin 8) (cause : CloseCause) (p : OpenRun × Tracks) :
    (peakRequests e i cause p).2.tracker = p.2.tracker := by
  simp only [peakRequests]; split <;> simp only [requestWhen_tracker]

theorem peakRequests_run (e : TrackEnv) (i : Fin 8) (cause : CloseCause) (p : OpenRun × Tracks) :
    ∃ left right, (peakRequests e i cause p).1 = { p.1 with left, right } := by
  simp only [peakRequests]; split
  · exact ⟨_, _, rfl⟩
  · obtain ⟨l, r, h⟩ := requestWhen_run e (peakDue e.cfg i p.1.cls .left) .left p.1.peakPost p
    obtain ⟨l', r', h'⟩ := requestWhen_run e (peakDue e.cfg i p.1.cls .right) .right p.1.peakPost
      (requestWhen e (peakDue e.cfg i p.1.cls .left) .left p.1.peakPost p)
    exact ⟨l', r', by rw [h', h]⟩

/-! ### The Run Queue -/

/-- The place given up lies beyond the held runs and holds the oldest run of lower class there. -/
theorem evictionIndex_some {held cls k : Nat} {queue : List RunRecord} (h : evictionIndex held cls queue = some k) :
    held ≤ k ∧ (∃ x, queue[k]? = some x ∧ x.cls < cls) ∧
      ∀ j y, held ≤ j → j < k → queue[j]? = some y → cls ≤ y.cls := by
  simp only [evictionIndex, Option.map_eq_some_iff] at h
  obtain ⟨a, h, rfl⟩ := h
  rw [List.findIdx?_eq_some_iff_getElem] at h
  obtain ⟨h1, h2, h3⟩ := h
  simp at h1
  refine ⟨by omega, ⟨queue[held + a]'(by omega), ?_, by simpa using h2⟩, ?_⟩
  · rw [Nat.add_comm, List.getElem?_eq_getElem]
  · intro j y hj hlt hy
    have := h3 (j - held) (by omega)
    rw [List.getElem?_eq_some_iff] at hy
    obtain ⟨_, rfl⟩ := hy
    simp at this
    simpa [show held + (j - held) = j by omega] using this

/-- No place is given up when every run beyond the held ones has the offered class or a higher one. -/
theorem evictionIndex_none {held cls : Nat} {queue : List RunRecord} (h : evictionIndex held cls queue = none) :
    ∀ j y, held ≤ j → queue[j]? = some y → cls ≤ y.cls := by
  intro j y hj hy
  simp only [evictionIndex, Option.map_eq_none_iff, List.findIdx?_eq_none_iff] at h
  obtain ⟨h1, h2⟩ := List.getElem?_eq_some_iff.1 hy
  have := h y (List.mem_drop_iff_getElem.2 ⟨j - held, by omega, by simp [show held + (j - held) = j by omega, h2]⟩)
  simpa using this

/-- An offer touches the queue and runs-lost alone: the queue grows by the run at its tail, or keeps its length after
giving up a run beyond the held ones, or stays. -/
theorem offerRun_frame (held : Nat) (r : RunRecord) (t : Tracker) :
    (t.queue.length < 32 ∧ offerRun held r t = { t with queue := t.queue ++ [r] }) ∨
    (¬ t.queue.length < 32 ∧ ∃ k, held ≤ k ∧ k < t.queue.length ∧
      offerRun held r t = { t with queue := t.queue.eraseIdx k ++ [r], runsLost := addSat16 t.runsLost 1 }) ∨
    (¬ t.queue.length < 32 ∧ offerRun held r t = { t with runsLost := addSat16 t.runsLost 1 }) := by
  by_cases h : t.queue.length < 32
  · exact .inl ⟨h, if_pos h⟩
  · right
    rw [offerRun, if_neg h]
    cases hk : evictionIndex held r.cls t.queue with
    | none => exact .inr ⟨h, rfl⟩
    | some k =>
      obtain ⟨h1, ⟨x, hx, _⟩, _⟩ := evictionIndex_some hk
      exact .inl ⟨h, k, h1, (List.getElem?_eq_some_iff.1 hx).1, rfl⟩

theorem offerRun_runs (held : Nat) (r : RunRecord) (t : Tracker) : (offerRun held r t).runs = t.runs := by
  obtain ⟨_, h⟩ | ⟨_, k, _, _, h⟩ | ⟨_, h⟩ := offerRun_frame held r t <;> rw [h]

theorem keepRun_runs (held : Nat) (i : Fin 8) (cause : CloseCause) (r : OpenRun) (t : Tracker) :
    (keepRun held i cause r t).runs = t.runs := offerRun_runs _ _ _

/-! ### Runs -/

/-- A close makes the measure IDLE and leaves the run states of the others. -/
theorem closeRun_runs (e : TrackEnv) (i : Fin 8) (m : TrackedMeasure) (cause : CloseCause) (r : OpenRun) (t : Tracks) :
    (closeRun e i m cause r t).tracker.runs = t.tracker.runs.set i none := by
  simp only [closeRun]
  split
  · rfl
  · simp only [keepRun_runs, peakRequests_tracker]; rfl

theorem postClass_le (m : TrackedMeasure) (d : Int) : postClass m d ≤ 3 := by
  simp only [postClass]; split_ifs <;> omega

/-- Holding a run sets its measure's run state to the run with the answers of its requests written in. -/
theorem holdRun_eq (e : TrackEnv) (i : Fin 8) (before : Nat) (r : OpenRun) (t : Tracks) :
    holdRun e i before r t =
      (let asked := startRequests e i before (r, { t with alert := classAlerts before r.cls t.alert })
       { asked.2 with tracker := { t.tracker with runs := t.tracker.runs.set i (some asked.1) } }) := by
  simp only [holdRun, Tracks.setRun, startRequests_tracker]

/-! ### A principle for the evaluation of a record -/

/-- What a property of the three blocks must survive to survive the evaluation of a record: other run states, other
edges, a marking request, a counted spike, and a kept run. -/
structure Tracks.Closed (e : TrackEnv) (P : Tracks → Prop) : Prop where
  runs : ∀ t runs, P t → P { t with tracker := { t.tracker with runs } }
  edges : ∀ t edges, P t → P { t with alert := { t.alert with edges } }
  request : ∀ t x target, P t → P (requestMark e x target t).2
  spike : ∀ t, P t → P { t with tracker := { t.tracker with spikes := addSat16 t.tracker.spikes 1 } }
  keep : ∀ t i cause r, P t → P { t with tracker := keepRun e.held i cause r t.tracker }

theorem Tracks.Closed.when {e : TrackEnv} {P : Tracks → Prop} (c : Tracks.Closed e P) (due : Bool) (x : Nozzle)
    (target : Int) (p : OpenRun × Tracks) (h : P p.2) : P (requestWhen e due x target p).2 := by
  cases due
  · exact h
  · exact c.request p.2 x target h

theorem Tracks.Closed.close {e : TrackEnv} {P : Tracks → Prop} (c : Tracks.Closed e P) (i : Fin 8) (m : TrackedMeasure)
    (cause : CloseCause) (r : OpenRun) (t : Tracks) (h : P t) : P (closeRun e i m cause r t) := by
  have h' : P (t.setRun i none) := c.runs t _ h
  simp only [closeRun]
  split
  · exact c.spike _ h'
  · apply c.keep
    simp only [peakRequests]
    split
    · exact h'
    · exact c.when _ _ _ _ (c.when _ _ _ _ h')

theorem Tracks.Closed.hold {e : TrackEnv} {P : Tracks → Prop} (c : Tracks.Closed e P) (i : Fin 8) (before : Nat)
    (r : OpenRun) (t : Tracks) (h : P t) : P (holdRun e i before r t) := by
  simp only [holdRun]
  exact c.runs _ _ (c.when _ _ _ _ (c.when _ _ _ _ (c.edges t _ h)))

theorem Tracks.Closed.gap {e : TrackEnv} {P : Tracks → Prop} (c : Tracks.Closed e P) (i : Fin 8) (m : TrackedMeasure)
    (n : Nat) (missing : Bool) (r : OpenRun) (t : Tracks) (h : P t) : P (countGap e i m n missing r t) := by
  simp only [countGap]
  split
  · exact c.close _ _ _ _ _ h
  · exact c.runs _ _ h

theorem Tracks.Closed.idle {e : TrackEnv} {P : Tracks → Prop} (c : Tracks.Closed e P) (i : Fin 8) (m : TrackedMeasure)
    (post d : Int) (t : Tracks) (h : P t) : P (takeIdle e i m post d t) := by
  simp only [takeIdle]
  split
  · exact h
  · exact c.hold _ _ _ _ h

theorem Tracks.Closed.exceeding {e : TrackEnv} {P : Tracks → Prop} (c : Tracks.Closed e P) (i : Fin 8)
    (m : TrackedMeasure) (post d : Int) (r : OpenRun) (t : Tracks) (h : P t) :
    P (takeExceeding e i m post d r t) := by
  simp only [takeExceeding]
  have h1 := c.hold i r.cls (extendRun m post d r) t h
  split
  · exact c.idle _ _ _ _ _ (c.close _ _ _ _ _ h)
  · split
    · split
      · exact c.close _ _ _ _ _ h1
      · exact h1
    · exact h1

theorem Tracks.Closed.measure {e : TrackEnv} {P : Tracks → Prop} (c : Tracks.Closed e P) (g : GeometryRecord)
    (t : Tracks) (im : Fin 8 × TrackedMeasure) (h : P t) : P (evaluateMeasure e g t im) := by
  have h1 : P (takeSkipped e im.1 im.2 g.skippedBefore t) := by
    simp only [takeSkipped]
    split
    · exact h
    · split
      · exact h
      · exact c.gap _ _ _ _ _ _ h
  simp only [evaluateMeasure, takePost]
  split
  · exact h1
  · exact c.idle _ _ _ _ _ h1
  · exact c.gap _ _ _ _ _ _ h1
  · split
    · exact c.exceeding _ _ _ _ _ _ h1
    · exact c.gap _ _ _ _ _ _ h1

/-- A closed property of the three blocks survives the evaluation of a record. -/
theorem Tracks.Closed.record {e : TrackEnv} {P : Tracks → Prop} (c : Tracks.Closed e P) (g : GeometryRecord)
    (t : Tracks) (h : P t) : P (evaluateRecord e g t) := by
  have fold : ∀ (l : List (Fin 8 × TrackedMeasure)) (t : Tracks), P t → P (l.foldl (evaluateMeasure e g) t) := by
    intro l
    induction l with
    | nil => exact fun _ h => h
    | cons im rest ih => exact fun t h => ih _ (c.measure g t im h)
  exact fold _ t h

/-- A closed property of the three blocks survives the FORCED closes. -/
theorem Tracks.Closed.forced {e : TrackEnv} {P : Tracks → Prop} (c : Tracks.Closed e P) (t : Tracks) (h : P t) :
    P (forceRuns e t) := by
  have fold : ∀ (l : List (Fin 8 × TrackedMeasure)) (t : Tracks), P t → P (l.foldl (forceMeasure e) t) := by
    intro l
    induction l with
    | nil => exact fun _ h => h
    | cons im rest ih =>
      intro t h
      refine ih _ ?_
      rw [forceMeasure]
      split
      · exact h
      · exact c.close _ _ _ _ _ h
  exact fold _ t h

end Sys2Proof.Machine
end

