-- ==== Sys2Proof/Laws/Window.lean ====
section
/-! SUPPORT. What the operations of the Post Window can do: the test of a row, one retirement, and the retirement of
rows from the oldest end. -/

namespace Sys2Proof.Machine

/-- The needed set of a row is present exactly when every needed slot is. -/
theorem needsMet_iff (c : StationConfig) (row : Row) :
    needsMet c row = true ↔ ∀ i : Fin 8, inSet c.needed i = true → row.slots[i].isSome = true := by
  rw [needsMet, eight_all]
  exact forall_congr' fun i => by cases inSet c.needed i <;> simp

/-- The test of a row changes its state alone: READY when the needed set is present, else as before. -/
theorem judgeRow_eq (c : StationConfig) (row : Row) :
    judgeRow c row = { row with state := if needsMet c row = true then .ready else row.state } := rfl

/-- The station is missing exactly when it is a needed peer with an absent slot. -/
theorem inSet_missingPeers (c : StationConfig) (row : Row) (i : Fin 8) :
    inSet (missingPeers c row) i = true ↔ inSet c.needed i = true ∧ i ≠ c.station ∧ row.slots[i] = none := by
  simp only [missingPeers, inSet_setWhere, Bool.and_eq_true, bne_iff_ne, Option.isNone_iff_eq_none, and_assoc]

/-- The missed-row counters after a retirement. -/
theorem countMissed_get (missing : Byte) (counters : Vector Nat 8) (i : Fin 8) :
    (countMissed missing counters)[i] = if inSet missing i then addSat16 counters[i] 1 else counters[i] :=
  tabulate_get _ i

/-- Rows retire from the oldest end, one whole retirement after the other; the rows behind stay. -/
theorem retireWhile_eq (e : TrackEnv) (leaves : Row → Bool) (rows : List Row) (f : Flow) :
    retireWhile e leaves rows f =
      (let g := (rows.takeWhile leaves).foldl (fun f row => retireRow e row f) f
       { g with window := { g.window with rows := rows.dropWhile leaves } }) := by
  induction rows generalizing f with
  | nil => rfl
  | cons r rest ih =>
    rw [retireWhile]
    by_cases h : leaves r = true
    · simp only [h, if_true, ih, List.takeWhile_cons_of_pos h, List.dropWhile_cons_of_pos h, List.foldl_cons]
    · simp only [h, List.takeWhile_cons_of_neg h, List.dropWhile_cons_of_neg h, List.foldl_nil]; rfl

theorem retireWhile_rows (e : TrackEnv) (leaves : Row → Bool) (rows : List Row) (f : Flow) :
    (retireWhile e leaves rows f).window.rows = rows.dropWhile leaves := by rw [retireWhile_eq]

/-- A property of the blocks that survives other rows and one retirement survives the retirement of rows. -/
theorem retireWhile_keeps {P : Flow → Prop} (e : TrackEnv) (leaves : Row → Bool)
    (others : ∀ f rows, P f → P { f with window := { f.window with rows } })
    (retire : ∀ row f, P f → P (retireRow e row f)) :
    ∀ (rows : List Row) (f : Flow), P f → P (retireWhile e leaves rows f) := by
  intro rows
  induction rows with
  | nil => exact fun f h => others f _ h
  | cons r rest ih =>
    intro f h
    rw [retireWhile]
    split
    · exact ih _ (retire r f h)
    · exact others f _ h

end Sys2Proof.Machine
end

