-- ==== Sys2Proof/Tests/Slice0.lean ====
section
/-! SUPPORT. The model's own tests: ill-formed terms refused, single commands against the worked examples of spec/, and
for every obligation with hypotheses a witness that meets them. Each test names the section its result comes from. -/

namespace Sys2Proof.Tests

-- One theorem at a time: the kernel evaluates each of them, and a thread for each would exhaust the memory.
set_option Elab.async false

open Sys2Proof Sys2Proof.Machine

/-! ### Well-formedness -/

theorem test_ill_formed_short_block : WellFormed (.loadConfig (List.replicate 182 0)) = false := by
  decide +kernel

theorem test_ill_formed_parameters :
    WellFormed (.takeResults []) = false ∧ WellFormed (.takeRuns [1, 2]) = false ∧ WellFormed (.endService []) = false ∧
      WellFormed (.setMask []) = false ∧ WellFormed (.setModes [0, 0]) = false ∧ WellFormed (.clearPending []) = false ∧
      WellFormed (.historyWindow [0, 0, 0, 0] [0, 0, 0]) = false ∧ WellFormed (.historyRead []) = false := by
  decide

theorem test_ill_formed_burst :
    WellFormed (.burstEnd (List.replicate 20 true) true) = false ∧
      WellFormed (.burstEnd (List.replicate 10 false ++ List.replicate 21 true) true) = false ∧
      WellFormed (.burstEnd [false] false) = false ∧
      WellFormed (.burstEnd (List.replicate 23 true) false) = false ∧
      WellFormed (.burstEnd (false :: List.replicate 20 true) false) = true ∧
      WellFormed (.burstEnd (List.replicate 10 false ++ List.replicate 20 true) true) = true := by
  decide +kernel

theorem test_ill_formed_arbitration_bit : WellFormed (.arbitrationLost 0) = false ∧ WellFormed (.arbitrationLost 5) = false := by
  decide

theorem test_ill_formed_error_bit : WellFormed (.transmitError 0) = false ∧ WellFormed (.transmitError 135) = false := by
  decide

theorem test_ill_formed_known_command : WellFormed (.unknownCommand 17) = false := by decide

theorem test_well_formed_bounds :
    WellFormed (.loadConfig (List.replicate 183 0)) = true ∧ WellFormed (.arbitrationLost 1) = true ∧
      WellFormed (.arbitrationLost 4) = true ∧ WellFormed (.transmitError 134) = true ∧
      WellFormed (.unknownCommand 0) = true ∧ WellFormed (.takeResults [8]) = true ∧
      WellFormed (.historyWindow [0, 0, 0, 0] [0, 0, 0, 0]) = true := by
  decide +kernel

/-! ### Words and bytes: the command bytes of R198, written out -/

/-- Command byte 17, command byte 32 with its parameter 8 in the second byte, and command byte 64 with the track posts 486
and 480. -/
theorem test_words_name_commands :
    decodeTableWord 8 0x11 = some .arm ∧ decodeTableWord 16 0x0820 = some (.takeResults [8]) ∧
      decodeTableWord 72 0xE0010000E601000040 = some (.historyWindow [0, 0, 1, 0xE6] [0, 0, 1, 0xE0]) ∧
      decodeTableWord 8 0x99 = some (.unknownCommand 0x99) ∧ decodeTableWord 0 0 = none := by
  decide +kernel

/-- Bits 0010 0001 are byte 33; three more are no byte (R195). -/
theorem test_bits_make_bytes :
    rdiBytes [false, false, true, false, false, false, false, true, true, true, true] = [33] := by decide

/-- Levels low, then 0110 0101, then high: byte 166 with its stop bit; 20 bit times of high line end the burst, 19 do not
(R49). A low stop bit is kept, and the line held low after it makes no byte. -/
theorem test_levels_make_bursts :
    let header := [false, false, true, true, false, false, true, false, true, true]
    sdataBursts (header ++ List.replicate 20 true) = [[{ data := 166, stopHigh := true }]] ∧
      sdataBursts (header ++ List.replicate 19 true) = [] ∧
      sdataBursts (List.replicate 30 false ++ List.replicate 20 true) = [[{ data := 0, stopHigh := false }]] := by
  decide +kernel

/-! ### Small states -/

/-- Station 2 with the calibration of 3.9, chord 1 and the twists of 5.7, the tracked measure of 7.9 on C and the nozzles
of 8.6. -/
def body : List Byte :=
  ([2, 40, 0x19, 0x00, 0, 10, 4, 2] ++
   [0, 200, 0x11, 0x9A, 0xFF, 0x6A, 0x10, 0, 0, 0, 0x10, 0, 0, 40, 0x10, 0, 0, 0, 0x20, 0] ++
   [1, 0, 5, 28, 36, 0, 1, 0x40] ++ List.replicate 21 0 ++ [2, 0, 5, 1, 12] ++
   [1, 1, 0, 0, 0x01, 0x2C, 0x01, 0xF4, 0x03, 0x20, 0, 50, 2, 4] ++ List.replicate 91 0 ++
   [1, 30, 2, 0, 5, 1, 1, 30, 3, 1, 8, 3, 0, 48])

/-- The block of those 181 bytes. -/
def block : List Byte := withCheck body

/-- The effective values of the block. -/
def cfg : StationConfig := effective block

/-- After self-test with all memories sound, an idle gap heard on both lines. -/
def unconfigured : State :=
  { State.reset with
    bus := { Bus.initial with heardIdle := true }
    sensor := { Sensor.initial with receiver := .receiving }
    control := { Control.initial with station := .unconfigured } }

/-- After self-test with the History Ring failed (10.5). -/
def faulty : State :=
  { State.reset with control := { Control.initial with station := .fault, selfTest := 4 }
                     sensor := { Sensor.initial with receiver := .waiting } }

/-- A configured station in the given state. -/
def placed (x : StationState) : State :=
  { unconfigured with control := { Control.initial with station := x, block := some block, config := some cfg, lock := true } }

/-- CONFIGURED. -/
def configured : State := placed .configured

/-- JOINING with A at `acc`. -/
def joining (acc : Int := 0) : State := { placed .joining with odo := { Odometry.initial false false with acc } }

/-- RUNNING at a post. -/
def running (post : Nat) : State := { placed .running with pacer := { Pacer.initial with currentPost := some post } }

/-- A state in power-on reset. -/
def held : State := { State.reset with resetn := false }

/-- The state after a command. -/
def after (c : Instr) (s : State) : State :=
  match exec c s with
  | .next t => t
  | .fault _ => s
  | .refused _ => s

/-- The response begun by a command. -/
def answer (c : Instr) (s : State) : Option (List Byte) := (after c s).port.transaction.map Transaction.response

/-- A value without flags. -/
def val (x : Int) : Option Value := some { dc := x, flags := Flags.clear }

/-- A sample of four values. -/
def sample4 : Sample := { yA := val 910, zL := val 60, zR := val (-40), cant := val 9820 }

/-- A row with every slot absent. -/
def row (post : Nat) : Row :=
  { post, state := .opened, origin := .noOwnLatch, skippedBefore := 0, speed := none, slots := emptySlots }

/-- A record of a car post. -/
def record (post : Nat) (cant : Option Value := none) : GeometryRecord := { recordOf cfg [] (row post) with cant }

/-- An open run of class 1 from track post 100 to `last`. -/
def run (last : Int) : OpenRun :=
  { start := 100, cls := 1, peak := 320, negative := false, peakPost := 100, last, gap := 0, hadMissing := false,
    left := .none, right := .none }

/-- A run record with a sequence number and a class. -/
def runRecord (sequence : Half) (cls : Nat) : RunRecord :=
  { sequence, measure := 1, cls, negative := false, start := 100, last := 106, peakPost := 103, length := 7, peak := 520,
    cause := .gap, hadMissing := false, left := .none, right := .none }

/-- The tracked measure of 7.9. -/
def measure : TrackedMeasure :=
  { measure := .cant, nominal := 0, l1 := 300, l2 := 500, l3 := 800, h := 50, g := 2, m := 4 }

/-- What a record of post 1000 is evaluated in. -/
def env : TrackEnv := { cfg, current := 1000, held := 0 }

/-- The tracker's blocks with the sequence counter of 7.9. -/
def tracks : Tracks :=
  { tracker := { Tracker.initial with sequence := 17 }, marker := Marker.initial, alert := Alert.initial }

/-- The blocks with measure 1 in an open run. -/
def tracksOpen (r : OpenRun) : Tracks := tracks.setRun 0 (some r)

/-- A sensor byte with its stop bit high. -/
def rx (n : Nat) : RxByte := { data := BitVec.ofNat 8 n, stopHigh := true }

/-- The good frame of 3.9: raw 1200, -900, 120, -40, 4750, no over-range. -/
def burst : List RxByte := [166, 0x04, 0xB0, 0xFC, 0x7C, 0, 0x78, 0xFF, 0xD8, 0x12, 0x8E, 0, 0x3F].map rx

/-- The levels of SDATA while the bytes are sent directly after one another, and the idle gap after them. -/
def sdata (bytes : List RxByte) : List Bool :=
  bytes.flatMap (fun x => false :: (List.range 8).map x.data.getLsbD ++ [x.stopHigh]) ++ List.replicate 20 true

/-- Two runs, a transaction taking them. -/
def taking (shifting : Shifting) (s : State) : State :=
  { s with port := { s.port with transaction := some { received := [], response := [], shifted := 0, shifting } } }

/-! ### Commands against the worked examples -/

/-- The check of a block that ends in its own check matches, whatever the check is. -/
theorem blockCheckOk_withCheck {b : List Byte} (h : b.length = 181) : blockCheckOk (withCheck b) = true := by
  have := (crcBytes b).isLt
  simp [blockCheckOk, withCheck, u16At, byteAt, be16, h, Nat.shiftRight_eq_div_pow]
  omega

theorem test_block_is_accepted : block.length = 183 ∧ judgeBlock block = .none := by
  have check : blockCheckOk block = true := blockCheckOk_withCheck (by decide +kernel)
  have rest : (identityOk block && odometryOk block && planOk block && trackingOk block && markingOk block) = true := by
    decide +kernel
  refine ⟨by simp [block, withCheck, be16]; decide +kernel, ?_⟩
  simp only [Bool.and_eq_true] at rest
  simp [judgeBlock, check, rest]

theorem test_release_loads_kept_levels :
    (after (.resetnRelease { tacA := true, tacB := false } false) held).odo.tacA = true ∧
      (after (.resetnRelease { tacA := true, tacB := false } false) held).odo.tacB = false := by
  decide +kernel

/-- 10.5, the failed memory. -/
theorem test_failed_memory_is_fault : (after (.selfTestEnd 4) State.reset).control.station = .fault := by decide +kernel

theorem test_power_on_clears_the_lock : (after .powerOnReset configured).control.lock = false := by decide +kernel

/-- 1.15, founding: the tenth forward edge. -/
theorem test_tenth_edge_requests_mark_1 :
    (after (.tachEdge .tacA) (joining 57600)).odo.acc = 64000 ∧ (after (.tachEdge .tacA) (joining 57600)).bus.slot = some 1 := by
  decide +kernel

/-- 1.15, backing: a reverse edge at A 0 makes the station REVERSING. -/
theorem test_reverse_edge : (after (.tachEdge .tacB) joining).odo.acc = -6400 := by decide +kernel

theorem test_both_lines : (after .bothLinesChanged joining).odo.tacA = true ∧ (after .bothLinesChanged joining).odo.acc = 0 := by
  decide +kernel

/-- 3.9, one latch from raw frame to quantities. -/
theorem test_burst_gives_local_quantities :
    (after (.burstEnd (sdata burst) true) (running 5)).localQuantities =
      { sample := { yA := val (-925), zL := val 120, zR := val (-80), cant := val 9700 }, gdev := val 350 } := by
  decide +kernel

/-- 3.9, a converter that stops: the burst of nine bytes. -/
theorem test_short_burst_is_counted : (after (.burstEnd (sdata (burst.take 9)) true) (running 5)).sensor.frameErrors = 1 := by
  decide +kernel

/-- R52: bytes before the first idle gap since SELF_TEST are neither taken nor counted; a burst after that gap is taken. -/
theorem test_first_gap_after_self_test :
    let waiting := after (.selfTestEnd 0) State.reset
    (after (.burstEnd (sdata (burst.take 9)) false) waiting).sensor.frameErrors = 0 ∧
      ((after (.burstEnd (sdata (burst.take 9) ++ sdata burst) false) waiting).sensor.latest).isSome = true := by
  decide +kernel

/-- 3.9: STALE is true at an age of 2,001 µs. -/
theorem test_stale_at_limit :
    (after .stale { running 5 with sensor := { Sensor.initial with age := some 2000 } }).sensor.age = some 2001 := by
  decide +kernel

/-- 2.8, the pending mark goes first. -/
theorem test_idle_gap_offers_mark :
    ((after .busIdleGap { running 42 with bus :=
        { Bus.initial with slot := some 43, queue := [{ post := 42, sample := sample4 }] } }).bus.sending.map
      Sending.frame) = some (.mark (ownMark 2 43)) := by
  decide +kernel

/-- RUNNING at post 811 while a frame of the queue or slot is being sent. -/
def sending (frame : TxFrame) (errors : Nat) : State :=
  { running 811 with bus := { Bus.initial with
      heardIdle := true, txErrors := errors, slot := some 812,
      queue := [{ post := 810, sample := sample4 }, { post := 811, sample := sample4 }],
      sending := some { frame, owned := true } } }

/-- The sample at the head of the queue of `sending`, as station 1 would send it. -/
def headSample : SampleFrame := ownSample 1 { post := 810, sample := sample4 }

/-- 2.8: station 1 loses a SAMPLE at key bit 4, the last bit of its number 001. -/
theorem test_arbitration_lost :
    (after (.arbitrationLost 4) (sending (.sample headSample) 29)).bus.sending = none ∧
      (after (.arbitrationLost 3) (sending (.sample headSample) 29)).bus.sending ≠ none := by
  decide +kernel

/-- 2.8, errors to LISTEN_ONLY. -/
theorem test_transmit_error_to_listen_only :
    (after (.transmitError 97) (sending (.sample headSample) 31)).bus =
      { Bus.initial with heardIdle := true, txErrors := 32, mode := .listenOnly,
                         aborted := some { frame := .sample headSample, bit := 97 } } := by
  decide +kernel

/-- R31: after an error at bit 20 of a mark, bits 21 to 54 are driven, and the frame is not received. -/
theorem test_aborted_frame_is_driven_out :
    let s := after (.transmitError 20) (sending (.mark (ownMark 2 812)) 29)
    s.busBits.map (fun b => (b.length, b.drop 21)) = some (55, List.replicate 34 false) ∧
      (after (.markFrame { ownMark 2 812 with ending := 0 }) s).bus.crcErrors = 0 ∧
      (after .busIdleGap s).bus.aborted = none := by
  decide +kernel

/-- 1.15, backing and running on: completion of mark 201. -/
def completing : State :=
  { running 200 with
    odo := { Odometry.initial false false with acc := 76800, edgeAge := some 5,
                                               lastLatch := some { post := 200, time := 0, interval := 1600000 } }
    bus := { Bus.initial with slot := some 201, sending := some { frame := .mark (ownMark 2 201), owned := true } } }

theorem test_mark_completion :
    (after .ownMarkCompletion completing).odo.acc = 12800 ∧
      (after .ownMarkCompletion completing).window.rows.map Row.speed = [some 15] := by
  decide +kernel

/-- 2.8: a sample sent without error leaves the queue and lowers the counter. -/
theorem test_sample_sent :
    (after .ownSampleSent (sending (.sample headSample) 30)).bus.queue.map QueuedSample.post = [811] ∧
      (after .ownSampleSent (sending (.sample headSample) 30)).bus.txErrors = 29 := by
  decide +kernel

/-- 1.15, rejoining: mark 5001 at post 1. -/
theorem test_mark_adopted_with_skipped_count :
    (after (.markFrame (ownMark 3 5001)) (running 1)).window.rows.map Row.skippedBefore = [4999] := by decide +kernel

/-- 1.15, rejoining: mark 1 at post 5000 is a mark conflict. -/
theorem test_mark_not_above_is_conflict :
    (after (.markFrame (ownMark 6 1)) (running 5000)).pacer.markConflict = 1 := by decide +kernel

/-- 4.8: station 0's sample for 62 at post 60 opens a row with skipped-before 1 and no own latch. -/
theorem test_sample_above_is_adopted :
    (after (.sampleFrame (ownSample 0 { post := 62, sample := sample4 })) (running 60)).window.rows.map
      (fun r => (r.post, r.origin, r.skippedBefore, r.speed)) = [(62, .noOwnLatch, 1, none)] := by
  decide +kernel

/-- 4.8: a sample whose row is gone is late for its sender. -/
theorem test_late_sample :
    (after (.sampleFrame (ownSample 6 { post := 47, sample := sample4 })) (running 47)).window.late[6] = 1 := by
  decide +kernel

/-- 8.6: a pulse of 50,000 µs ends. -/
theorem test_valve_expiry :
    (after (.valveExpiry .left) { running 550 with marker := { Marker.initial with left := .opened 50 } }).marker.left =
      .closed := by
  decide +kernel

/-- 10.5: IDENTIFY is answered OK in SELF_TEST, READ_STATUS is BUSY. -/
theorem test_answers_in_self_test :
    (answer .identify State.reset).map List.length = some 7 ∧ answer .readStatus State.reset = some [1] := by
  decide +kernel

/-- The response of READ_STATUS is a status byte and 258 bytes (R200). -/
theorem test_read_status_length : (answer .readStatus (running 5)).map List.length = some 259 := by decide +kernel

/-- 10.5: a block accepted. -/
theorem test_load_config : (after (.loadConfig block) unconfigured).control.station = .configured := by
  have h := test_block_is_accepted
  have whole : block.take 183 = block := List.take_of_length_le (le_of_eq h.1)
  simp [after, exec, execLoadConfig, State.powered, clockIn, Port.void, Port.initial, paramCount, commandList,
    takeCommand, State.withTransaction, gated, answerLoadConfig, unconfigured,
    State.endTransaction, State.cancelWindow, State.respond, State.acceptBlock, State.reset, whole, h]

/-- 10.5: station number 9 is refused for IDENTITY. -/
theorem test_identity_refused : judgeBlock (withCheck (body.set 0 9)) = .identity := by
  have check : blockCheckOk (withCheck (body.set 0 9)) = true := blockCheckOk_withCheck (by decide +kernel)
  have identity : identityOk (withCheck (body.set 0 9)) = false := by decide +kernel
  rw [judgeBlock, check, identity]; rfl

/-- 10.5: ARM in UNCONFIGURED and in CONFIGURED. -/
theorem test_arm : answer .arm unconfigured = some [2] ∧ (after .arm configured).control.station = .joining := by
  decide +kernel

/-- 10.5: DISARM in CONFIGURED. -/
theorem test_disarm_wrong_state : answer .disarm configured = some [2] := by decide +kernel

/-- 6.8: RESYNC empties the ring and keeps the FIFO. -/
theorem test_resync_keeps_fifo :
    let s := after .resync { running 5001 with ring := [record 5001], results := { Results.initial with fifo := [record 5001] } }
    s.ring = [] ∧ s.results.fifo.length = 1 ∧ s.control.station = .joining := by
  decide +kernel

/-- 6.8: TAKE_RESULTS 8 with five records held. -/
def fiveRecords : State :=
  { running 2205 with results := { Results.initial with fifo := [2201, 2202, 2203, 2204, 2205].map record } }

theorem test_take_results :
    (answer (.takeResults [8]) fiveRecords).map (fun r => (r.length, r.take 2)) = some (202, [0, 5]) := by decide +kernel

theorem test_record_shifted_out :
    (after .recordShiftedOut (after (.takeResults [8]) fiveRecords)).results.fifo.map GeometryRecord.carPost =
      [2202, 2203, 2204, 2205] := by
  decide +kernel

/-- RUNNING with runs 40 (class 2), 41 (class 1) and 42 (class 3) queued (7.9). -/
def threeRuns : State :=
  { running 5 with tracker := { Tracker.initial with queue := [runRecord 40 2, runRecord 41 1, runRecord 42 3] } }

theorem test_take_runs : (answer (.takeRuns [2]) threeRuns).map (fun r => (r.length, r.take 2)) = some (58, [0, 2]) := by
  decide +kernel

theorem test_run_shifted_out :
    (after .runShiftedOut (after (.takeRuns [2]) threeRuns)).tracker.queue.map RunRecord.sequence = [41, 42] := by
  decide +kernel

/-- RUNNING, all unmasked, PLAN and MARK raised and RESULTS in service (9.5). -/
def alerted : State :=
  { running 5 with alert := { Alert.initial with edges := 6, mask := 0, inService := 32 } }

/-- 9.5, nested service: ACKNOWLEDGE takes PLAN, and MARK waits. -/
theorem test_acknowledge_takes_plan :
    answer .acknowledge alerted = some [0, 1] ∧ (after .acknowledge alerted).alertLine = false := by decide +kernel

/-- 9.5, nested service: END_SERVICE 255 ends PLAN, and MARK calls. -/
theorem test_end_service :
    let s := { alerted with alert := { alerted.alert with edges := 4, inService := 34 } }
    answer (.endService [255]) s = some [0, 1] ∧ (after (.endService [255]) s).eligibleSet = 4 := by decide +kernel

theorem test_set_mask : (after (.setMask [6]) alerted).eligibleSet = 0 := by decide +kernel

theorem test_set_modes : (after (.setModes [2]) alerted).alert.autoEnd = true := by decide +kernel

theorem test_clear_pending : (after (.clearPending [1]) alerted).alert.edges = 4 := by decide +kernel

/-- RUNNING with a history window over 486 and 487 and the record of track post 487 in the ring (11.5). -/
def browsing (cursor : Int) : State :=
  { running 600 with ring := [record 527]
                     port := { Port.initial with window := some { first := 486, last := 487, cursor } } }

theorem test_history_window : (after (.historyWindow [0, 0, 0x01, 0xE6] [0, 0, 0x01, 0xE0]) (running 600)).port.window =
    some { first := 486, last := 486, cursor := 486 } := by decide +kernel

/-- 11.5: a read past the end of the window is answered END. -/
theorem test_history_read : answer (.historyRead [8]) (browsing 486) = some [0, 2] ∧ answer (.historyRead [3]) (browsing 488) = some [6] := by
  decide +kernel

/-- 11.5: a post the ring does not hold is sent as kind byte 2 and its track post. -/
theorem test_history_lookup :
    answer .historyEntryLookup (taking (.entries 2 false) (browsing 486)) = some [2, 0, 0, 0x01, 0xE6] ∧
      (answer .historyEntryLookup (taking (.entries 1 false) (browsing 487))).map List.length = some 41 := by
  decide +kernel

theorem test_history_shifted_out :
    (after .historyEntryShiftedOut (taking (.entries 2 true) (browsing 486))).port.window.map HistoryWindow.cursor =
      some 487 := by
  decide +kernel

theorem test_unknown_command : answer (.unknownCommand 0x99) faulty = some [7] := by decide +kernel

theorem test_deselect_keeps_window :
    (after .deselect (taking (.entries 2 false) (browsing 486))).port.transaction = none ∧
      (after .deselect (browsing 486)).port.window.isSome = true := by
  decide +kernel

/-- A station released from reset while RSEL is low. -/
def selectedEarly : State := after (.resetnRelease { tacA := false, tacB := false } true) held

/-- R195: the select that began before RESETN rose takes no command; the next one does. -/
theorem test_early_select :
    answer .identify selectedEarly = none ∧ (answer .identify (after .deselect selectedEarly)).isSome = true := by
  decide +kernel

/-- R196: a zero byte while the command comes in, then the status byte BUSY, then zeros; nothing once RSEL is high. -/
theorem test_rdo :
    (List.range 24).map (after .arm State.reset).rdo =
      List.replicate 15 (some false) ++ [some true] ++ List.replicate 8 (some false) ∧
    (after .deselect (after .arm State.reset)).rdo 0 = none := by
  decide +kernel

/-- R203: after OK and the count the kind byte is not determined before its lookup, and is 2, GONE, after it. -/
theorem test_kind_byte_is_determined_at_its_lookup :
    let reading := after (.historyRead [8]) (browsing 486)
    let kind : State → Option (Option Byte) := fun s => s.port.transaction.map fun t => t.rdoByte 4
    kind reading = some none ∧ kind (after .historyEntryLookup reading) = some (some 2) := by
  decide +kernel

/-! ### Operations against the worked examples -/

/-- The reference case of 5.3. -/
theorem test_scaled_versine : scaledVersine ⟨0, 5, 28, 36, .alignment, 320⟩ 1250 (-340) 910 = -1801 := by decide +kernel

/-- R6: speeds of 2,812 µs and 1,600,000 µs. -/
theorem test_speed : speedOf 2812 = 8890 ∧ speedOf 1600000 = 15 := by decide

/-- 7.9: track posts 101, 105 and the closing 109 of the class 2 run. -/
theorem test_gap_closes_run :
    (takePost env 0 measure (record 149 (val 190)) (tracksOpen { run 106 with cls := 2, gap := 2 })).tracker.queue.map
      (fun r => (r.sequence, r.last, r.cause)) = [(17, 106, .gap)] := by
  decide +kernel

/-- 8.6, a full queue: TOO_LATE comes before the test for room. -/
theorem test_marking_too_late :
    (requestMark { env with current := 690 } .left 618 tracks).1 = .tooLate ∧
      (requestMark { env with current := 526 } .left 500 tracks).2.marker.queue = [⟨570, .left⟩] := by
  decide +kernel

/-- A station with RESETN high and an empty port takes transactions. -/
theorem takes {s : State} (high : s.resetn = true) (port : s.port.selected = false) : s.takesTransactions :=
  ⟨high, fun h => by simp [port] at h⟩

/-! ### Witnesses: each shows states and operands that meet a statement's hypotheses, clause by clause -/

theorem witness_PowerOnResetMakesSafeAndHolds :
    held.resetn = false ∧ Instr.arm ≠ .powerOnReset ∧ ∀ l d, Instr.arm ≠ .resetnRelease l d := by
  exact ⟨rfl, by decide, by intro l d h; cases h⟩

theorem witness_ReleaseAndSelfTestEnd :
    (running 5).resetn = true ∧ held.resetn = false ∧ State.reset.resetn = true ∧ State.reset.control.station = .selfTest := by
  decide

theorem witness_TachLinesCountAndRequest : (joining 57600).resetn = true ∧ (running 5).resetn = true := by decide

theorem witness_OwnMarkCompletionReachesItsPost :
    completing.resetn = true ∧ completing.bus.sending = some { frame := .mark (ownMark 2 201), owned := true } :=
  ⟨rfl, rfl⟩

/-- The highest index above the current post, and index 1 in JOINING. -/
theorem witness_ForeignMarkAboveIsAdopted :
    (markGood (ownMark 3 2147483647) = true ∧ (running 2147483646).bus.heardIdle = true ∧
      (running 2147483646).bus.sending = none ∧ (running 2147483646).bus.aborted = none ∧ (running 2147483646).control.station = .running ∧
      (ownMark 3 2147483647).post.toNat = 2147483647 ∧ ∀ c, (running 2147483646).pacer.currentPost = some c → c < 2147483647) ∧
    (markGood (ownMark 3 1) = true ∧ (joining).bus.heardIdle = true ∧ (joining).control.station = .joining ∧
      (ownMark 3 1).post.toNat = 1 ∧ (joining).pacer.currentPost = none) := by
  refine ⟨⟨by decide +kernel, rfl, rfl, rfl, rfl, by decide +kernel, ?_⟩, by decide +kernel, rfl, rfl, by decide +kernel, rfl⟩
  intro c h
  cases h
  decide

/-- Index 0, an index above the highest, and the current post itself. -/
theorem witness_MarkNotAboveIsCounted :
    (markGood (ownMark 3 0) = true ∧ (ownMark 3 0).post.toNat = 0) ∧
    (markGood (ownMark 3 2147483648) = true ∧ 2147483647 < (ownMark 3 2147483648).post.toNat) ∧
    (markGood (ownMark 3 5) = true ∧ (ownMark 3 5).post.toNat = 5 ∧ (running 5).pacer.currentPost = some 5) ∧
    (running 5).resetn = true ∧ (running 5).bus.heardIdle = true ∧ (running 5).bus.sending = none ∧
      (running 5).bus.aborted = none ∧
      (running 5).control.station = .running := by
  decide +kernel

theorem witness_IdleGapBeginsMarkBeforeSample :
    (running 5).resetn = true ∧ (running 5).bus.sending = none := ⟨rfl, rfl⟩

/-- Key bit 1 of a SAMPLE is sent released; the other clauses need a frame of each kind, owned or not. -/
theorem witness_SendingEndsByLossOrSuccess :
    (sending (.sample headSample) 29).resetn = true ∧
    (sending (.sample headSample) 29).bus.sending = some { frame := .sample headSample, owned := true } ∧
    (frameBits (.sample headSample))[1]? = some true ∧ (frameBits (.sample headSample))[4]? = some true ∧
    (after .disarm (sending (.sample headSample) 29)).bus.sending = some { frame := .sample headSample, owned := false } ∧
    (after .disarm (sending (.mark (ownMark 2 812)) 29)).bus.sending =
      some { frame := .mark (ownMark 2 812), owned := false } := by
  decide +kernel

/-- The first key bit of a MARK is driven; the last bit of a SAMPLE is bit 134; the counter before 32 is 31. -/
theorem witness_TransmitErrorAbortsAndCounts :
    ((sending (.mark (ownMark 2 812)) 0).resetn = true ∧ (frameBits (.mark (ownMark 2 812)))[1]? = some false) ∧
    (sending (.sample headSample) 31).bus.txErrors = 31 ∧ (frameBits (.sample headSample)).length = 135 := by
  decide +kernel

/-- A frame with a CRC that differs, one with an end bit driven, a good one with the own number, good ones of posts 0 and
2,147,483,648; receiving, sending, never idle; armed and not. -/
theorem witness_FrameNotDeliveredIsDisposedOf :
    (configured.bus.heardIdle = true ∧ configured.bus.sending = none ∧ configured.bus.aborted = none ∧
      configured.resetn = true) ∧
    (after (.transmitError 5) (sending (.sample headSample) 0)).bus.aborted ≠ none ∧
    State.reset.bus.heardIdle = false ∧ (sending (.sample headSample) 0).bus.sending ≠ none ∧
    { ownMark 3 9 with crc := 0 }.crc ≠ crcBits (markCovered { ownMark 3 9 with crc := 0 }) ∧
    { headSample with ending := 1 }.ending ≠ 3#2 ∧
    sampleGood (ownSample 2 { post := 9, sample := sample4 }) = true ∧
    (ownSample 2 { post := 9, sample := sample4 }).sender.toNat = (running 5).cfg.station.val ∧
    (sampleGood (ownSample 1 { post := 0, sample := sample4 }) = true ∧
      (ownSample 1 { post := 0, sample := sample4 }).post.toNat = 0) ∧
    (sampleGood (ownSample 1 { post := 2147483648, sample := sample4 }) = true ∧
      2147483647 < (ownSample 1 { post := 2147483648, sample := sample4 }).post.toNat) ∧
    (sampleGood (ownSample 2 { post := 0, sample := sample4 }) = true ∧
      (ownSample 2 { post := 0, sample := sample4 }).sender.toNat = (running 5).cfg.station.val) ∧
    (running 5).cfg.station.val ≠ (ownSample 1 { post := 0, sample := sample4 }).sender.toNat := by
  decide +kernel

theorem witness_FramesReadBackAsFormed :
    (4294967295 : Nat) < 4294967296 ∧ { sample4 with yA := val (-32768), zL := val 32767, zR := none }.inRange := by
  refine ⟨by decide, ?_, ?_, ?_, ?_⟩ <;> intro x h <;> cases h <;> constructor <;> decide

/-- A sensor age at the limit; a valve OPEN, a valve CLOSED. -/
theorem witness_TimedEventsHappenAtTheirMoment :
    let s := { running 5 with sensor := { Sensor.initial with age := some 2000 },
                              marker := { Marker.initial with left := .opened 1 } }
    (s.resetn = true ∧ s.control.station = .running ∧ s.sensor.age = some 2000 ∧ s.cfg.staleMs ≤ 255 ∧
      2000 ≤ 1000 * s.cfg.staleMs) ∧
    s.marker.valve .left = .opened 1 ∧
    s.marker.left ≠ .opened 0 ∧ s.marker.right ≠ .opened 0 ∧ s.marker.valve .right = .closed := by
  decide +kernel

theorem witness_LocalQuantitiesAreDerived :
    State.reset.sensor.latest = none ∧
    (after (.burstEnd (sdata burst) true) (running 5)).sensor.latest = some (frameSet burst 0) ∧ 0 < 1 := by
  decide +kernel

/-- RUNNING at 47 with rows 46 and 47, slot 0 of row 46 filled. -/
def windowed : State :=
  { running 47 with window := { Window.initial with
      rows := [{ row 46 with slots := emptySlots.set 0 (some { sample := sample4, gdev := none }) }, row 47] } }

/-- A sample above the current post, one for an absent slot, one for a present slot, one for no row. -/
theorem witness_DeliveredSampleTakesOneOfFourCases :
    let f : Nat → SampleFrame := fun n => ownSample 0 { post := n, sample := sample4 }
    (windowed.resetn = true ∧ windowed.bus.heardIdle = true ∧ windowed.bus.sending = none ∧
      windowed.bus.aborted = none ∧ windowed.control.station = .running) ∧
    (∀ n ∈ [1, 46, 47, 2147483647], sampleGood (f n) = true ∧ (f n).sender.toNat ≠ windowed.cfg.station.val ∧
      (f n).post.toNat = n) ∧
    windowed.pacer.currentPost = some 47 ∧
    (windowed.window.rows.find? (fun r => r.post == 47)).map (fun r => r.slots[senderOf (f 47).sender]) = some none ∧
    (windowed.window.rows.find? (fun r => r.post == 46)).map (fun r => (r.slots[senderOf (f 46).sender]).isSome) = some true ∧
    windowed.window.rows.find? (fun r => r.post == 1) = none := by
  decide +kernel

theorem witness_StoredSampleFillsOneSlot :
    windowed.window.rows[0]?.map Row.post = some 46 ∧ windowed.window.rows[1]? = some (row 47) := by
  decide +kernel

theorem witness_EveryCommandCompletes :
    Instr.arm ≠ .stale ∧ ∀ x, Instr.arm ≠ .valveExpiry x := ⟨by decide, by intro x h; cases h⟩

/-- A record with a present and with absent values. -/
theorem witness_WireFormsHaveTheirFields :
    let g := record 9 (val (-120))
    let values := [g.gdev, g.cant, g.chords[0], g.chords[1], g.chords[2], g.chords[3], g.twists[0], g.twists[1]]
    values[1]? = some (val (-120)) ∧ values[7]? = some none := by
  decide +kernel

theorem witness_RecordTakesItsFieldsFromTheRow :
    ({ row 9 with slots := emptySlots.set 2 (some { sample := sample4, gdev := val 350 }) }.slots[cfg.station]).isSome = true ∧
    (row 9).slots[cfg.station] = none ∧ cfg.chords.length ≤ 1 ∧ (cfg.chords[0]?).isSome = true ∧
    cfg.twists.length ≤ 2 ∧ (cfg.twists[1]?).isSome = true := by
  decide +kernel

theorem witness_ChordValueIsTheScaledVersine :
    let full : Row := { row 9 with slots := Vector.replicate 8 (some { sample := sample4, gdev := none }) }
    (row 9).slots[0] = none ∧ (full.slots[0]).map (fun x => x.sample.yA) = some (val 910) := by
  decide +kernel

/-- A ring that holds the base record and one that does not; a base at the row's own post and one below it. -/
theorem witness_TwistValueIsTheCantDifference :
    (row 9).post ≤ 9 ∧ 8 < (row 9).post ∧ record 1 ∈ [record 1] ∧ (record 1).carPost = (row 9).post - 8 ∧
    ([record 1, record 2].Pairwise fun x y => x.carPost < y.carPost) ∧ ∀ g ∈ [record 2], g.carPost ≠ (row 9).post - 8 := by
  decide +kernel

/-- A FIFO of 63 and one of 64 records; a ring of two records held and sought. -/
theorem witness_StoresKeepTheRecords :
    (List.replicate 63 (record 1)).length < 64 ∧ 64 ≤ (List.replicate 64 (record 1)).length ∧
    (List.replicate 512 (record 1)).length ≤ 512 ∧
    ([record 1, record 2].Pairwise fun x y => x.carPost < y.carPost) ∧
    ([record 1, record 2].Pairwise fun x y => x.trackPost < y.trackPost) ∧ record 2 ∈ [record 1, record 2] ∧
    (∀ x ∈ [record 1, record 2], x.carPost ≠ 3) ∧ ∀ x ∈ [record 1, record 2], x.trackPost ≠ 0 := by
  decide +kernel

/-- The measure of 7.9 with an absent value, one HELD, and present ones. -/
theorem witness_PostIsJudgedByItsDeviation :
    (measure.l1 ≤ measure.l2 ∧ measure.l2 ≤ measure.l3 ∧ measure.h ≤ measure.l1) ∧
    (record 9).cant = none ∧ (record 9 (val 320)).cant = val 320 ∧ (val 320).map (fun v => v.flags.held) = some false := by
  decide +kernel

/-- An IDLE measure; no data, |d| at 300 and at 301. -/
theorem witness_IdleMeasureOpensRunAtClassOne :
    tracks.tracker.runs[(0 : Fin 8)] = none ∧ deviation measure (record 9) = none ∧
    deviation measure (record 9 (val 300)) = some 300 ∧ postClass measure 300 = 0 ∧ 1 ≤ postClass measure 301 := by
  decide +kernel

/-- A run with its gap count at G and below; no data, and |d| at 250, not exceeding. -/
theorem witness_GapCountClosesRun :
    (tracksOpen { run 106 with gap := 2 }).tracker.runs[(0 : Fin 8)] = some { run 106 with gap := 2 } ∧ 2 ≤ measure.g ∧
    (run 106).gap ≤ measure.g ∧ deviation measure (record 9) = none ∧
    deviation measure (record 9 (val 250)) = some 250 ∧ exceeding measure 250 = false := by
  decide +kernel

/-- An exceeding post that makes a run of 4095, 4096 and 4097 posts. -/
theorem witness_ExceedingPostExtendsRun :
    (tracksOpen (run 106)).tracker.runs[(0 : Fin 8)] = some (run 106) ∧ (run 106).cls ≤ 3 ∧ exceeding measure 251 = true ∧
    (∀ p ∈ [(4095, 4234), (4096, 4235), (4097, 4236)],
      deviation measure (record p.2 (val 251)) = some 251 ∧ (record p.2).trackPost - (run 106).start + 1 = (p.1 : Int)) := by
  decide +kernel

/-- A class 1 run of 3 posts, M being 4, one of 4 posts, and a class 2 run. -/
theorem witness_CloseFiltersNumbersAndOffers :
    ((run 102).cls = 1 ∧ ((run 102).last - (run 102).start + 1).toNat < measure.m) ∧
    (¬ ((run 103).cls = 1 ∧ ((run 103).last - (run 103).start + 1).toNat < measure.m)) ∧
    ¬ ({ run 102 with cls := 2 }.cls = 1) := by
  decide

/-- A queue of 32: the second run is the oldest of lower class; and none is lower. -/
theorem witness_RunQueueEvictsOldestLowerClass :
    let queue := [runRecord 40 2, runRecord 41 1] ++ List.replicate 30 (runRecord 42 3)
    (List.replicate 31 (runRecord 42 3)).length < 32 ∧ queue.length = 32 ∧
    (queue[1]? = some (runRecord 41 1) ∧ (runRecord 41 1).cls < (runRecord 72 2).cls ∧
      ∀ y, queue[0]? = some y → (runRecord 72 2).cls ≤ y.cls) ∧
    ∀ (k : Nat) (x : RunRecord), queue[k]? = some x → (runRecord 73 1).cls ≤ x.cls := by
  refine ⟨by decide, by decide, ⟨rfl, by decide, ?_⟩, ?_⟩
  · intro y h
    cases h
    decide
  · intro k x h
    have := List.mem_of_getElem? h
    simp only [List.mem_append, List.mem_cons, List.not_mem_nil, or_false, List.mem_replicate] at this
    obtain (rfl | rfl) | ⟨-, rfl⟩ := this <;> decide

/-- A nozzle fitted and one not; each condition of R155 met first; an action with a place in an ordered queue. -/
theorem witness_MarkingRequestIsAnsweredInOrder :
    StationConfig.absent.nozzle .left = none ∧
    (cfg.nozzle .left).map NozzleConfig.offset = some 30 ∧ cfg.carOffset = 40 ∧
    ((930 : Int) + 40 + 30 ≤ env.current ∧ (env.current : Int) < 931 + 40 + 30) ∧
    (∃ a ∈ [({ due := 1001, nozzle := .left } : MarkAction)], a.nozzle = .left ∧ (a.due : Int) = 931 + 40 + 30) ∧
    (2147483647 : Int) < 2147483578 + 40 + 30 ∧ (2147483577 : Int) + 40 + 30 ≤ 2147483647 ∧
    16 ≤ (List.replicate 16 ({ due := 1002, nozzle := .left } : MarkAction)).length ∧
    ([({ due := 9, nozzle := .left } : MarkAction), { due := 9, nozzle := .right }].Pairwise fun x y =>
      x.due < y.due ∨ (x.due = y.due ∧ x.nozzle = .left ∧ y.nozzle = .right)) ∧
    ({ due := 8, nozzle := .right } : MarkAction) ∉
      [({ due := 9, nozzle := .left } : MarkAction), { due := 9, nozzle := .right }] := by
  decide +kernel

theorem witness_AlertIsAssertedWhenASourceIsEligible : alerted.resetn = true := rfl

/-- Nothing eligible, and source 1 the most urgent. -/
theorem witness_AcknowledgeTakesTheMostUrgent :
    (alerted.takesTransactions ∧ configured.takesTransactions) ∧
    (alerted.control.station ≠ .selfTest ∧ alerted.control.station ≠ .fault) ∧
    (∀ i : Fin 8, configured.eligibleSet.getLsbD i = false) ∧
    alerted.eligibleSet.getLsbD 1 = true ∧ ∀ j < (1 : Fin 8), alerted.eligibleSet.getLsbD j = false := by
  refine ⟨⟨takes rfl rfl, takes rfl rfl⟩, ?_⟩
  decide +kernel

/-- Bytes 8 and 254 name no source; 255 with nothing in service; 255 with source 5 in service; byte 7 the last source. -/
theorem witness_EndServiceMaskModesAndClear :
    (alerted.takesTransactions ∧ configured.takesTransactions) ∧
    (8 ≤ (8#8).toNat ∧ 8#8 ≠ 255#8 ∧ 254#8 ≠ 255#8) ∧ (∀ i : Fin 8, configured.alert.inService.getLsbD i = false) ∧
    (alerted.alert.inService.getLsbD 5 = true ∧ alerted.alert.specialMask = false ∧
      ∀ j < (5 : Fin 8), alerted.alert.inService.getLsbD j = false) ∧
    (7#8).toNat < 8 ∧ 8 ≤ (255#8).toNat := by
  refine ⟨⟨takes rfl rfl, takes rfl rfl⟩, ?_⟩
  decide +kernel

/-! Witnesses about blocks: the four groups as the statement has them. -/

/-- The check of a block matches. -/
abbrev Checked (b : List Byte) : Prop := (b.drop 181) = be16 (crcBytes (b.take 181))

/-- Byte `i` as a number. -/
abbrev at' (b : List Byte) (i : Nat) : Nat := (b.getD i 0).toNat

/-- Group Odometry holds no refused field. -/
abbrev Odometry (b : List Byte) : Prop := (at' b 2 ≠ 0 ∨ at' b 3 ≠ 0) ∧ at' b 4 ≤ 1

/-- Group Plan holds no refused field. -/
abbrev Plan (b : List Byte) : Prop :=
  at' b 28 ≤ 4 ∧
  (∀ i < at' b 28, at' b (29 + 7 * i) ≤ 7 ∧ at' b (30 + 7 * i) ≤ 7 ∧ at' b (29 + 7 * i) ≠ at' b (30 + 7 * i) ∧
    at' b (29 + 7 * i) ≠ at' b 0 ∧ at' b (30 + 7 * i) ≠ at' b 0 ∧ at' b (33 + 7 * i) ≤ 2) ∧
  at' b 57 ≤ 2 ∧
  ∀ i < at' b 57, at' b (58 + 2 * i) = 1 ∨
    (at' b (58 + 2 * i) = 0 ∧ at' b (59 + 2 * i) ≤ 7 ∧ at' b (59 + 2 * i) ≠ at' b 0)

/-- Group Tracking holds no refused field. -/
abbrev Tracking (b : List Byte) : Prop :=
  at' b 62 ≤ 8 ∧ ∀ i < at' b 62, at' b (63 + 13 * i) = 0 ∨ at' b (63 + 13 * i) = 1 ∨
    (2 ≤ at' b (63 + 13 * i) ∧ at' b (63 + 13 * i) ≤ 5 ∧ at' b (63 + 13 * i) - 1 ≤ at' b 28) ∨
    (6 ≤ at' b (63 + 13 * i) ∧ at' b (63 + 13 * i) ≤ 7 ∧ at' b (63 + 13 * i) - 5 ≤ at' b 57)

/-- Group Marking holds no refused field. -/
abbrev Marking (b : List Byte) : Prop :=
  (at' b 167 = 0 ∨ (at' b 167 = 1 ∧ at' b 170 ≤ 1)) ∧ (at' b 173 = 0 ∨ (at' b 173 = 1 ∧ at' b 176 ≤ 1))

/-- A block that ends in its own check has 183 bytes and passes the check. -/
theorem checked_withCheck {b : List Byte} (h : b.length = 181) : (withCheck b).length = 183 ∧ Checked (withCheck b) := by
  simp [Checked, withCheck, be16, h]

/-- Each group refused at its nearest bad value, the groups before it sound. -/
theorem witness_BlockIsJudgedByItsFirstRefusedGroup :
    (∃ b : List Byte, b.length = 183 ∧ ¬ Checked b) ∧
    (∀ i x, (withCheck (body.set i x)).length = 183 ∧ Checked (withCheck (body.set i x))) ∧
    ¬ at' (withCheck (body.set 0 8)) 0 ≤ 7 ∧
    (at' (withCheck (body.set 4 2)) 0 ≤ 7 ∧ ¬ Odometry (withCheck (body.set 4 2))) ∧
    (Odometry (withCheck (body.set 28 5)) ∧ ¬ Plan (withCheck (body.set 28 5))) ∧
    (Odometry (withCheck (body.set 62 9)) ∧ Plan (withCheck (body.set 62 9)) ∧ ¬ Tracking (withCheck (body.set 62 9))) ∧
    (Odometry (withCheck (body.set 167 2)) ∧ Plan (withCheck (body.set 167 2)) ∧ Tracking (withCheck (body.set 167 2)) ∧
      ¬ Marking (withCheck (body.set 167 2))) ∧
    (at' block 0 ≤ 7 ∧ Odometry block ∧ Plan block ∧ Tracking block ∧ Marking block) := by
  have differ : ¬ (Checked (body ++ [0, 0]) ∧ Checked (body ++ [0, 1])) := by
    have h : body.length = 181 := by decide +kernel
    simp only [Checked, List.drop_append_of_le_length (le_of_eq h.symm), List.take_append_of_le_length (le_of_eq h.symm)]
    rintro ⟨h₁, h₂⟩
    exact absurd (List.append_cancel_left (h₁.trans h₂.symm)) (by decide)
  refine ⟨?_, fun i x => checked_withCheck (by rw [List.length_set]; decide +kernel),
    by decide +kernel, by decide +kernel, by decide +kernel, by decide +kernel, by decide +kernel, by decide +kernel⟩
  by_cases h : Checked (body ++ [0, 0])
  · exact ⟨_, by decide +kernel, fun h' => differ ⟨h, h'⟩⟩
  · exact ⟨_, by decide +kernel, h⟩

/-- An accepted block with a chord, both kinds of twist, a measure and both nozzles; with neither nozzle fitted, another. -/
theorem witness_EffectiveValuesAreClamped :
    (block.length = 183 ∧ judgeBlock block = .none) ∧ at' block 62 = 1 ∧ at' block 63 = 1 ∧
    (cfg.chords[0]?).isSome = true ∧ (at' block 58 = 0 ∧ at' block 60 = 1) ∧ at' block 167 = 1 ∧
    at' (withCheck (body.set 167 0)) 167 = 0 ∧ at' (withCheck (body.set 63 2)) 63 = (0 : Fin 4) + 2 ∧
    at' (withCheck (body.set 63 7)) 63 = (1 : Fin 2) + 6 :=
  ⟨test_block_is_accepted, by decide +kernel⟩

/-- 182 bytes; a block in CONFIGURED; in UNCONFIGURED one refused and one accepted. -/
theorem witness_LoadConfigStoresOrRefuses :
    (block.take 182).length < 183 ∧ configured.control.station = .configured ∧ configured.takesTransactions ∧
    unconfigured.control.station = .unconfigured ∧ unconfigured.takesTransactions ∧
    judgeBlock (withCheck (body.set 0 9)) ≠ .none ∧ judgeBlock block = .none ∧ block.length = 183 := by
  refine ⟨by simp, rfl, takes rfl rfl, rfl, takes rfl rfl, ?_, test_block_is_accepted.2, test_block_is_accepted.1⟩
  rw [test_identity_refused]
  decide

theorem witness_ArmStartsAFreshRun :
    unconfigured.control.station = .unconfigured ∧ unconfigured.takesTransactions ∧
    configured.control.station = .configured ∧ configured.takesTransactions :=
  ⟨rfl, takes rfl rfl, rfl, takes rfl rfl⟩

/-- RUNNING at post 147 with measure 1 in an open run of class 2 from track post 100 to 106. -/
def tracking : State :=
  { running 147 with tracker := { Tracker.initial with sequence := 17,
                                                       runs := (Vector.replicate 8 none).set 0 (some { run 106 with cls := 2 }) } }

/-- CONFIGURED; RUNNING with a tracked measure in an open run, which DISARM closes FORCED and queues under number 17. -/
theorem witness_DisarmAndResyncLeaveTheRun :
    (configured.takesTransactions ∧ configured.control.station = .configured) ∧
    tracking.takesTransactions ∧ tracking.control.station = .running ∧
    (tracking.cfg.measures[(0 : Fin 8).val]?).isSome = true ∧ (tracking.tracker.runs[(0 : Fin 8)]).isSome = true ∧
    tracking.cfg.measures.length ≤ (1 : Fin 8).val ∧
    (after .disarm tracking).tracker.queue.map (fun r => (r.sequence, r.last, r.cause)) = [(17, 106, .forced)] ∧
    (after .resync tracking).tracker.runs[(0 : Fin 8)] = none := by
  refine ⟨⟨takes rfl rfl, rfl⟩, takes rfl rfl, rfl, ?_⟩
  decide +kernel

theorem witness_IdentifyAnswersSixBytes :
    State.reset.control.station = .selfTest ∧ State.reset.takesTransactions ∧
    (running 5).control.station ≠ .selfTest ∧ (running 5).takesTransactions :=
  ⟨rfl, takes rfl rfl, by decide, takes rfl rfl⟩

/-- With a sensor set and without; an age, and none; a fitted and an absent configuration; an open run, and IDLE. -/
theorem witness_ReadStatusShowsTheSnapshot :
    let s := { after (.burstEnd (sdata burst) true) (running 5) with
      tracker := { Tracker.initial with runs := (Vector.replicate 8 none).set 0 (some (run 106)) }
      marker := { Marker.initial with queue := [{ due := 9, nozzle := .right }] } }
    s.takesTransactions ∧ s.control.station ≠ .selfTest ∧ s.sensor.latest = some (frameSet burst 0) ∧ s.sensor.age = some 0 ∧
    (s.cfg.measures[(0 : Fin 8).val]?).isSome = true ∧ s.tracker.runs[(0 : Fin 8)] = some (run 106) ∧
    s.cfg.measures.length ≤ (1 : Fin 8).val ∧ s.marker.queue = [{ due := 9, nozzle := .right }] ∧
    faulty.control.config = none ∧ s.control.config = some cfg ∧ (cfg.nozzle .right).isSome = true ∧
    cfg.measures[0]? = some measure ∧ faulty.control.station ≠ .selfTest ∧ faulty.resetn = true := by
  refine ⟨takes (by decide +kernel) (by decide +kernel), ?_⟩
  decide +kernel

theorem witness_TakingSendsTheOldestFirst :
    (configured.takesTransactions ∧ fiveRecords.takesTransactions ∧ threeRuns.takesTransactions) ∧
    (configured.control.station ≠ .selfTest ∧ configured.control.station ≠ .fault) ∧
    configured.results.fifo = [] ∧ configured.tracker.queue = [] ∧ fiveRecords.results.fifo ≠ [] ∧
    threeRuns.tracker.queue ≠ [] := by
  refine ⟨⟨takes rfl rfl, takes rfl rfl, takes rfl rfl⟩, ?_⟩
  decide +kernel

theorem witness_TransactionProgressAndEnd :
    ((after (.takeResults [8]) fiveRecords).resetn = true ∧
      (after (.takeResults [8]) fiveRecords).port.transaction.map Transaction.shifting = some (.records (4 + 1))) ∧
    (after (.takeRuns [1]) threeRuns).port.transaction.map Transaction.shifting = some (.runs (0 + 1)) ∧
    (after (.takeRuns [1]) threeRuns).port.selected = true ∧ (running 5).port.selected = false ∧
    (answer (.takeResults [8]) fiveRecords ≠ some [] ∧ answer (.takeResults []) fiveRecords = some []) := by
  decide +kernel

/-- No window; the cursor at the window's end and past it; a post the ring holds and one it does not. -/
theorem witness_HistoryIsReadThroughTheWindow :
    ((running 600).takesTransactions ∧ configured.takesTransactions ∧ (browsing 487).takesTransactions) ∧
    ((running 600).control.station = .running ∧ (running 600).port.window = none) ∧
    configured.control.station = .configured ∧
    ((browsing 488).port.window = some { first := 486, last := 487, cursor := 488 } ∧ (487 : Int) < 488) ∧
    (browsing 487).port.window = some { first := 486, last := 487, cursor := 487 } ∧
    (record 527 ∈ (browsing 487).ring ∧ (record 527).trackPost = 487 ∧
      ((browsing 487).ring.Pairwise fun x y => x.trackPost < y.trackPost)) ∧
    (∀ g ∈ (browsing 486).ring, g.trackPost ≠ 486) ∧
    (after (.historyRead [8]) (browsing 486)).port.transaction.map Transaction.shifting = some (.entries (1 + 1) false) ∧
    (after .historyEntryLookup (after (.historyRead [8]) (browsing 486))).port.transaction.map Transaction.shifting =
      some (.entries (1 + 1) true) := by
  refine ⟨⟨takes rfl rfl, takes rfl rfl, takes rfl rfl⟩, ?_⟩
  decide +kernel

/-! ### Witnesses of the invariant: stations with an accepted block -/

/-- A station with all stores empty and no sensor set meets the invariant when control block and pacing do. -/
theorem inv_of_empty {s : State} {heardIdle : Bool} {receiver : SensorReceiver}
    (bus : s.bus = { Bus.initial with heardIdle }) (sensor : s.sensor = { Sensor.initial with receiver }) (window : s.window = Window.initial)
    (results : s.results = Results.initial) (ring : s.ring = []) (tracker : s.tracker = Tracker.initial)
    (marker : s.marker = Marker.initial) (port : s.port = Port.initial) (conflict : s.pacer.markConflict = 0)
    (control : s.ControlOk) (pacing : s.PacingOk) : s.Inv := by
  refine ⟨?_, ?_, ?_, fun _ => control, fun _ => pacing, fun _ => ?_, fun _ => ?_, fun _ => ?_, fun _ => ?_, fun _ => ?_,
    fun _ => ?_⟩
  · constructor <;> simp [bus, results, ring, tracker, marker, Bus.initial, Results.initial, Tracker.initial, Marker.initial]
  · simp [State.CountersOk, State.counters, bus, sensor, window, results, tracker, marker, conflict, Bus.initial,
      Sensor.initial, Window.initial, Results.initial, Tracker.initial, Marker.initial]
  · constructor <;> simp [bus, sensor, window, results, ring, Bus.initial, Sensor.initial, Window.initial, Results.initial]
  · constructor <;> simp [bus, Bus.initial]
  · constructor <;> simp [window, Window.initial]
  · constructor <;> simp [ring]
  · constructor <;> simp [marker, Marker.initial]
  · constructor <;> simp [tracker, Tracker.initial]
  · constructor <;> simp [port, Port.initial]

/-- A station in SELF_TEST that meets the invariant; the receiver off, waiting and receiving; levels with no idle gap, and
with one after a low level; the levels of the good burst of 3.9 and of its first nine bytes; bytes 0 and 19 bit times apart,
and a byte with a low stop bit. -/
theorem witness_BurstIsJudgedWhole :
    let testing := { State.reset with timer := 1 }
    let noGap : List Bool → Prop := fun l => ∀ p q, l ≠ p ++ List.replicate 20 true ++ q
    (testing.Inv ∧ testing.resetn = true ∧ testing.control.station = .selfTest ∧ testing.sensor.receiver = .off) ∧
    (noGap [false] ∧ noGap ([false] ++ List.replicate 19 true)) ∧
    (after (.selfTestEnd 0) State.reset).sensor.receiver = .waiting ∧
    ((running 5).resetn = true ∧ (running 5).sensor.receiver = .receiving) ∧
    (sdataBursts (sdata burst) = [burst] ∧ sdataBursts (sdata (burst.take 9)) = [burst.take 9]) ∧
    (burst.length = 13 ∧ (∀ x ∈ burst, x.stopHigh = true) ∧ burst.head?.map RxByte.data = some 166#8 ∧
      (burst.map fun x => x.data.toNat).sum % 256 = 0) ∧
    (∀ u ∈ [(rx 1, 0), (rx 2, 19), ({ data := 0, stopHigh := false }, 1)], u.2 < 20 ∧ (u.1.stopHigh = false → 1 ≤ u.2)) := by
  intro testing noGap
  refine ⟨⟨inv_of_empty rfl rfl rfl rfl rfl rfl rfl rfl rfl ?_ ?_, rfl, rfl, rfl⟩, ⟨?_, ?_⟩, by decide +kernel⟩
  · refine ⟨by decide, rfl, rfl, ?_, by decide, by decide, by decide⟩
    intro b h
    cases h
  · refine ⟨by decide, by decide, by decide, ?_⟩
    intro n h
    cases h
  · intro p q h
    have := congrArg List.length h
    simp at this
    omega
  · intro p q h
    have length := congrArg List.length h
    obtain ⟨rfl, rfl⟩ : p = [] ∧ q = [] := by simp at length; exact ⟨List.eq_nil_of_length_eq_zero (by omega), List.eq_nil_of_length_eq_zero (by omega)⟩
    exact absurd h (by decide)

/-- For every statement `StepKeeps…` and for `CurrentPostNeverFalls`: RUNNING at post 5 with IDENTIFY waiting, the
invariant holds and a step completes. -/
theorem witness_StepKeeps :
    State.Inv { running 5 with pending := [.identify] } ∧
    step { running 5 with pending := [.identify] } = .next (after .identify (running 5)) ∧
    (after .identify (running 5)).resetn = true ∧ (running 5).resetn = true ∧ (running 5).control.lock = true ∧
    (running 5).pacer.currentPost = some 5 := by
  refine ⟨inv_of_empty rfl rfl rfl rfl rfl rfl rfl rfl rfl ?_ ?_, rfl, rfl, rfl, rfl, rfl⟩
  · refine ⟨by decide, rfl, rfl, ?_, by decide, by decide, by decide⟩
    intro b h
    cases h
    exact test_block_is_accepted
  · refine ⟨by decide, by decide, by decide, ?_⟩
    intro n h
    cases h
    decide

/-- A faulty station meets the invariant. -/
theorem witness_StationStateDecidesTheAnswer :
    (State.reset.takesTransactions ∧ State.reset.control.station = .selfTest ∧ WellFormed .arm = true ∧
      commandBytes .arm = some [17] ∧ Instr.arm ≠ .identify ∧ Instr.arm ≠ .readStatus) ∧
    (0x99#8 : Byte) ∉ ([1, 2, 16, 17, 18, 19, 32, 33, 48, 49, 50, 51, 52, 64, 65] : List Byte) ∧
    (commandBytes (.takeResults []) = some [32] ∧ ([] : List Byte).length < paramCount 32 ∧
      paramCount 32 ≤ [8#8, 9#8].length) ∧
    (selectedEarly.port.selected = true ∧ selectedEarly.port.transaction = none) ∧
    faulty.Inv ∧ faulty.takesTransactions ∧ faulty.control.station = .fault := by
  refine ⟨⟨takes rfl rfl, by decide⟩, by decide, by decide, by decide +kernel, inv_of_empty rfl rfl rfl rfl rfl rfl rfl rfl rfl ?_ ?_, takes rfl rfl, rfl⟩
  · refine ⟨by decide, rfl, rfl, ?_, by decide, by decide, by decide⟩
    intro b h
    cases h
  · refine ⟨by decide, by decide, by decide, ?_⟩
    intro n h
    cases h

end Sys2Proof.Tests
end

section
/-! SUPPORT. What the bus and the pacer do at each event, as far as pacing and bus must agree: the lemmas behind the
step lemma for A, the current post, slot, sample queue and frame in progress (R2, R8, R12, R31 to R33, R37, R38). -/

namespace Sys2Proof.Machine

/-! ### The effective depth -/

/-- An accepted block gives a depth W of at least 4 (R187). -/
theorem effective_depth (b : List Byte) : 4 ≤ (effective b).depth := by
  simp only [effective, clampField]; omega

/-! ### What is tested: requests, adoptions, receiving -/

/-- The conditions of R10, one by one. -/
theorem State.mayRequest_iff (s : State) :
    s.mayRequest = true ↔ s.armed = true ∧ pitch ≤ s.odo.acc ∧ s.odo.tachFault = false ∧ s.bus.mode = .active ∧
      s.bus.slot = none ∧ s.pacer.currentPost ≠ some maxPost := by
  simp [State.mayRequest, and_assoc]

/-- The slot after the test of R10. -/
theorem State.testRequest_slot (s : State) :
    s.testRequest.bus.slot = if s.mayRequest then some s.nextIndex else s.bus.slot := rfl

/-- What a station may adopt: a higher index, no higher than the highest (R14, R15, R19). -/
theorem State.mayAdopt_iff (n : Nat) (s : State) : s.mayAdopt n = true ↔ 1 ≤ n ∧ n ≤ maxPost ∧ s.post < n := by
  simp [State.mayAdopt, and_assoc]

/-- Receiving, the station neither sends nor drives out a frame (R31, R47). -/
theorem State.receives_iff (s : State) :
    s.receives = true ↔ s.bus.heardIdle = true ∧ s.bus.sending = none ∧ s.bus.aborted = none := by
  simp [State.receives, and_assoc]

/-! ### What the events of the own frame leave as it is -/

/-- A lost arbitration touches the bus alone (R29). -/
theorem State.loseArbitration_frame (bit : Nat) (s : State) : ∃ bus, s.loseArbitration bit = { s with bus } := by
  rw [State.loseArbitration]
  split
  · exact ⟨_, rfl⟩
  · split <;> exact ⟨_, rfl⟩

/-- A transmit error touches the bus alone (R30 to R33). -/
theorem State.abortFrame_frame (bit : Nat) (s : State) : ∃ bus, s.abortFrame bit = { s with bus } := by
  rw [State.abortFrame]
  split
  · exact ⟨_, rfl⟩
  · split <;> exact ⟨_, rfl⟩

/-- An own sample sent touches the bus alone (R39). -/
theorem State.sampleSent_frame (s : State) : ∃ bus, s.sampleSent = { s with bus } := by
  rw [State.sampleSent]
  split <;> exact ⟨_, rfl⟩

theorem State.markSent_resetn (s : State) : s.markSent.resetn = s.resetn := by
  rw [State.markSent]
  split <;> rfl

theorem State.takeSample_resetn (sender : Fin 8) (n : Nat) (x : Sample) (s : State) :
    (s.takeSample sender n x).resetn = s.resetn := by
  rw [State.takeSample]
  split
  · rfl
  · split
    · split <;> rfl
    · rfl

/-! ### PacingOk and BusOk under changes that do not touch them -/

/-- The pacing clauses read A, the current post and the station state alone. -/
theorem State.PacingOk.frame {s t : State} (h : s.PacingOk) (acc : t.odo.acc = s.odo.acc)
    (current : t.pacer.currentPost = s.pacer.currentPost) (station : t.control.station = s.control.station) :
    t.PacingOk := by
  have armed : t.armed = s.armed := by simp only [State.armed, station]
  exact ⟨acc ▸ h.acc, fun idle => acc.trans (h.idle (armed ▸ idle)), by rw [current, station, h.running],
    fun n hn => h.post n (current ▸ hn)⟩

/-- A station that runs with a current post and an A in range meets the pacing clauses. -/
theorem State.PacingOk.of_running {t : State} {n : Nat} (current : t.pacer.currentPost = some n)
    (station : t.control.station = .running) (post : 1 ≤ n ∧ n ≤ maxPost)
    (acc : -16320000 ≤ t.odo.acc ∧ t.odo.acc ≤ 256000) : t.PacingOk := by
  refine ⟨acc, fun idle => ?_, by simp [current, station], fun k hk => ?_⟩
  · simp [State.armed, station] at idle
  · rw [current] at hk; cases hk; exact post

/-- A station that does not run, has no current post and has A at 0 meets the pacing clauses. -/
theorem State.PacingOk.of_no_post {t : State} (current : t.pacer.currentPost = none)
    (station : t.control.station ≠ .running) (acc : t.odo.acc = 0) : t.PacingOk :=
  ⟨by rw [acc]; decide, fun _ => acc, by simp [current, station], fun n hn => by rw [current] at hn; cases hn⟩

/-- Outside RUNNING there is no current post. -/
theorem State.PacingOk.no_post {s : State} (h : s.PacingOk) (station : s.control.station ≠ .running) :
    s.pacer.currentPost = none := by
  cases e : s.pacer.currentPost with
  | none => rfl
  | some n => exact absurd (h.running.1 (by rw [e]; rfl)) station

/-- The bus clauses read the bus, the configuration, the current post, and whether the station is armed. -/
theorem State.BusOk.frame {s t : State} (h : s.BusOk) (bus : t.bus = s.bus) (cfg : t.cfg = s.cfg)
    (post : t.post = s.post) (armed : s.armed = true → t.armed = true) : t.BusOk := by
  constructor
  case mode => rw [bus]; exact h.mode
  case silent => rw [bus]; exact h.silent
  case slot =>
    rw [bus, post]
    exact fun k hk => (h.slot k hk).imp_left armed
  case young => rw [bus, post, cfg]; exact h.young
  case ascending => rw [bus]; exact h.ascending
  case mark => rw [bus, cfg]; exact h.mark
  case sample => rw [bus, cfg]; exact h.sample
  case aborted => rw [bus]; exact h.aborted

/-- The place of the bit in error within an aborted frame (R30, R31). -/
def AbortedFrame.InFrame (a : AbortedFrame) : Prop := 1 ≤ a.bit ∧ a.bit < (frameBits a.frame).length

/-- A frame that is driven out is in error within its length. -/
theorem State.BusOk.inFrame {s : State} (h : s.BusOk) : ∀ a, s.bus.aborted = some a → a.InFrame :=
  fun a driven => (h.aborted a driven).2

/-- In LISTEN_ONLY slot and queue are empty (R33). -/
theorem State.BusOk.emptied_of_listenOnly {s : State} (h : s.BusOk) (low : s.bus.mode = .listenOnly) :
    s.bus.slot = none ∧ s.bus.queue = [] :=
  (h.silent low).imp_right And.left

/-- In LISTEN_ONLY nothing is being sent (R33). -/
theorem State.BusOk.released_of_listenOnly {s : State} (h : s.BusOk) (low : s.bus.mode = .listenOnly) :
    s.bus.sending = none :=
  (h.silent low).2.2

/-- While nothing is being sent the clauses on the frame in progress say nothing. -/
theorem State.BusOk.of_released {t : State} (released : t.bus.sending = none)
    (mode : t.bus.mode = .listenOnly ↔ t.bus.txErrors = 32)
    (silent : t.bus.mode = .listenOnly → t.bus.slot = none ∧ t.bus.queue = [])
    (slot : ∀ k, t.bus.slot = some k → t.armed = true ∧ k = t.post + 1 ∧ k ≤ maxPost)
    (young : ∀ q ∈ t.bus.queue, 1 ≤ q.post ∧ q.post ≤ t.post ∧ t.post < q.post + t.cfg.depth)
    (ascending : t.bus.queue.Pairwise fun p q => p.post < q.post)
    (aborted : ∀ a, t.bus.aborted = some a → a.InFrame) : t.BusOk where
  mode := mode
  silent low := ⟨(silent low).1, (silent low).2, released⟩
  slot := slot
  young := young
  ascending := ascending
  mark f hf := by rw [released] at hf; cases hf
  sample f hf := by rw [released] at hf; cases hf
  aborted a ha := ⟨released, aborted a ha⟩

/-- With slot and queue empty, a frame in progress belongs to neither. -/
theorem State.BusOk.of_emptied {t : State} (slot : t.bus.slot = none) (queue : t.bus.queue = [])
    (parted : ∀ x, t.bus.sending = some x → x.owned = false)
    (mode : t.bus.mode = .listenOnly ↔ t.bus.txErrors = 32)
    (silent : t.bus.mode = .listenOnly → t.bus.sending = none)
    (aborted : ∀ a, t.bus.aborted = some a → t.bus.sending = none ∧ a.InFrame) : t.BusOk where
  mode := mode
  silent low := ⟨slot, queue, silent low⟩
  slot k hk := by rw [slot] at hk; cases hk
  young q hq := by rw [queue] at hq; cases hq
  ascending := by rw [queue]; exact .nil
  mark f hf := Bool.noConfusion (parted _ hf)
  sample f hf := Bool.noConfusion (parted _ hf)
  aborted := aborted

/-- While pacing is inactive slot and queue are empty, and a frame in progress belongs to neither. -/
theorem State.BusOk.emptied_of_unarmed {s : State} (h : s.BusOk) (pacing : s.PacingOk) (idle : s.armed = false) :
    s.bus.slot = none ∧ s.bus.queue = [] ∧ ∀ x, s.bus.sending = some x → x.owned = false := by
  have slot : s.bus.slot = none := by
    cases e : s.bus.slot with
    | none => rfl
    | some k => rw [(h.slot k e).1] at idle; cases idle
  have post : s.post = 0 := by
    rw [State.post, pacing.no_post fun run => by simp [State.armed, run] at idle]; rfl
  have queue : s.bus.queue = [] := by
    refine List.eq_nil_iff_forall_not_mem.2 fun q hq => ?_
    have := h.young q hq
    omega
  refine ⟨slot, queue, fun x hx => ?_⟩
  obtain ⟨frame, owned⟩ := x
  cases owned with
  | false => rfl
  | true =>
    cases frame with
    | mark f => obtain ⟨k, hk, -⟩ := h.mark f hx; rw [slot] at hk; cases hk
    | sample f => obtain ⟨q, hq, -⟩ := h.sample f hx; rw [queue] at hq; cases hq

/-! ### A mark request is placed -/

/-- The test of R10 places the next index only, and not beyond the highest one. -/
theorem State.BusOk.testRequest {s : State} (h : s.BusOk) (pacing : s.PacingOk) : s.testRequest.BusOk := by
  by_cases may : s.mayRequest = true
  · obtain ⟨armed, -, -, active, free, below⟩ := s.mayRequest_iff.1 may
    have slot : s.testRequest.bus.slot = some s.nextIndex := by rw [s.testRequest_slot, if_pos may]
    have room : s.post + 1 ≤ maxPost := by
      rw [State.post]
      cases e : s.pacer.currentPost with
      | none => decide
      | some n =>
        have top := (pacing.post n e).2
        have : n ≠ maxPost := fun eq => below (by rw [e, eq])
        exact Nat.lt_of_le_of_ne top this
    refine ⟨h.mode, fun low => ?_, fun k hk => ?_, h.young, h.ascending, fun f hf => ?_, h.sample, h.aborted⟩
    · exact absurd (active.symm.trans low) (by decide)
    · rw [slot] at hk; cases hk; exact ⟨armed, rfl, room⟩
    · obtain ⟨k, hk, -⟩ := h.mark f hf
      rw [free] at hk; cases hk
  · have same : s.testRequest.bus = s.bus := by simp only [State.testRequest, if_neg may]
    exact h.frame same rfl rfl id

/-! ### A post is reached -/

/-- The post advance of a station that comes to a higher post with slot and line free: what stays queued is young, and
lies behind the new post (R38). -/
theorem State.BusOk.advance {s : State} {n : Nat} (h : s.BusOk) (rise : s.post < n) (slot : s.bus.slot = none)
    (released : s.bus.sending = none) :
    ((s.enterPost n).postAdvance n).BusOk ∧ ∀ q ∈ ((s.enterPost n).postAdvance n).bus.queue, q.post < n := by
  have shed : ((s.enterPost n).postAdvance n).bus.queue = s.bus.queue.filter fun q => !q.obsolete s.cfg.depth n := rfl
  have kept : ∀ q ∈ ((s.enterPost n).postAdvance n).bus.queue, q ∈ s.bus.queue ∧ n < q.post + s.cfg.depth := by
    intro q hq
    rw [shed, List.mem_filter] at hq
    simpa [QueuedSample.obsolete] using hq
  have behind : ∀ q ∈ ((s.enterPost n).postAdvance n).bus.queue, q.post < n := fun q hq =>
    Nat.lt_of_le_of_lt (h.young q (kept q hq).1).2.1 rise
  refine ⟨.of_released released h.mode (fun low => ⟨slot, ?_⟩) (fun k hk => ?_) (fun q hq => ?_) ?_ h.inFrame, behind⟩
  · rw [shed, (h.emptied_of_listenOnly low).2]; rfl
  · exact absurd (slot.symm.trans hk) nofun
  · exact ⟨(h.young q (kept q hq).1).1, (behind q hq).le, (kept q hq).2⟩
  · rw [shed]; exact h.ascending.filter _

/-- Queueing a sample: nothing while LISTEN_ONLY, else it joins the tail, without the oldest when four were held, which
samples-shed counts (R33, R37). -/
theorem Bus.append_cases (q : QueuedSample) (b : Bus) :
    (b.mode = .listenOnly ∧ b.append q = b) ∨
    (b.mode ≠ .listenOnly ∧ ∃ n samplesShed, b.append q = { b with queue := b.queue.drop n ++ [q], samplesShed }) := by
  rw [Bus.append]
  split
  · exact .inl ⟨‹_›, rfl⟩
  · refine .inr ⟨‹_›, ?_⟩
    split
    · exact ⟨1, _, rfl⟩
    · exact ⟨0, _, rfl⟩

theorem Bus.append_txErrors (q : QueuedSample) (b : Bus) : (b.append q).txErrors = b.txErrors := by
  rcases b.append_cases q with ⟨-, same⟩ | ⟨-, _, _, same⟩ <;> rw [same]

/-- The latch event at the current post queues the youngest sample (R37). -/
theorem State.BusOk.latch {s : State} {n k : Nat} (h : s.BusOk) (post : s.post = n) (first : 1 ≤ n)
    (released : s.bus.sending = none) (behind : ∀ q ∈ s.bus.queue, q.post < n) (depth : 1 ≤ s.cfg.depth) :
    (s.latch n k).BusOk := by
  let sample : QueuedSample := { post := n, sample := s.localQuantities.sample }
  have bus : (s.latch n k).bus = s.bus.append sample := rfl
  rcases s.bus.append_cases sample with ⟨-, same⟩ | ⟨active, m, samplesShed, same⟩
  · exact h.frame (bus.trans same) rfl rfl id
  · have old : ∀ q ∈ s.bus.queue.drop m, q ∈ s.bus.queue := fun q => List.mem_of_mem_drop
    refine .of_released ?_ ?_ ?_ ?_ ?_ ?_ ?_ <;> rw [bus, same]
    · exact released
    · exact h.mode
    · exact fun low => absurd low active
    · exact h.slot
    · intro q hq
      rw [State.latch_post, State.latch_cfg, post]
      rcases List.mem_append.1 hq with hq | hq
      · exact post ▸ h.young q (old q hq)
      · obtain rfl := List.mem_singleton.1 hq
        exact ⟨first, Nat.le_refl n, Nat.lt_add_of_pos_right depth⟩
    · refine List.pairwise_append.2 ⟨h.ascending.drop, List.pairwise_singleton _ _, fun p hp q hq => ?_⟩
      obtain rfl := List.mem_singleton.1 hq
      exact behind p (old p hp)
    · exact h.inFrame

end Sys2Proof.Machine
end

section
/-! The step lemma for pacing and bus: one lemma for each update of the state that moves A, the current post or the bus, and
from these the step lemma. -/

namespace Sys2Proof.Machine

/-- What pacing and bus keep by themselves, at every step of a station whose RESETN is high: the clauses of the invariant
on both, and what these lean on in the bus and the configuration (R2, R8, R12, R31 to R33, R37, R38, R187). -/
structure State.Paced (s : State) : Prop where
  pacing : s.PacingOk
  bus : s.BusOk
  errors : s.bus.txErrors ≤ 32
  depth : s.control.station = .configured ∨ s.armed = true → 1 ≤ s.cfg.depth

theorem State.Inv.paced {s : State} (h : s.Inv) (high : s.resetn = true) : s.Paced := by
  refine ⟨h.pacing high, h.bus high, h.stores.txErrors, fun set => ?_⟩
  have control := h.control high
  have lock : s.control.lock = true := control.lock.2 (set.imp_right s.armed_iff.1)
  obtain ⟨b, hb⟩ := Option.isSome_iff_exists.1 (control.block ▸ lock)
  have cfg : s.cfg = effective b := by rw [State.cfg, control.config, hb]; rfl
  rw [cfg]
  exact Nat.le_trans (by decide) (effective_depth b)

/-- A change outside A, current post, station state, configuration and bus. -/
theorem State.Paced.frame {s t : State} (h : s.Paced) (acc : t.odo.acc = s.odo.acc)
    (current : t.pacer.currentPost = s.pacer.currentPost) (station : t.control.station = s.control.station)
    (bus : t.bus = s.bus) (cfg : t.cfg = s.cfg) : t.Paced := by
  have armed : t.armed = s.armed := by simp only [State.armed, station]
  have post : t.post = s.post := by simp only [State.post, current]
  refine ⟨h.pacing.frame acc current station, h.bus.frame bus cfg post (armed ▸ id), ?_, ?_⟩
  · rw [bus]; exact h.errors
  · rw [station, armed, cfg]; exact h.depth

/-- A change of the bus alone. -/
theorem State.Paced.withBus {s : State} (h : s.Paced) (bus : Bus) (ok : State.BusOk { s with bus })
    (errors : bus.txErrors ≤ 32) : State.Paced { s with bus } :=
  ⟨h.pacing.frame rfl rfl rfl, ok, errors, h.depth⟩

/-- While a frame is being sent the mode is ACTIVE and the error counter is below its limit (R33). -/
theorem State.Paced.sending {s : State} (h : s.Paced) {x : Sending} (sending : s.bus.sending = some x) :
    s.bus.mode ≠ .listenOnly ∧ s.bus.txErrors < 32 := by
  have active : s.bus.mode ≠ .listenOnly := fun low =>
    absurd ((h.bus.released_of_listenOnly low).symm.trans sending) nofun
  exact ⟨active, Nat.lt_of_le_of_ne h.errors fun full => active (h.bus.mode.2 full)⟩

/-! ### The updates of the bus -/

/-- The frame an idle gap offers is the mark of the slot or the sample at the head of the queue, and none in LISTEN_ONLY
(R33, R35). -/
theorem State.nextFrame_some {s : State} {frame : TxFrame} (h : s.nextFrame = some frame) :
    s.bus.mode ≠ .listenOnly ∧
      ((∃ k, s.bus.slot = some k ∧ frame = .mark (ownMark s.cfg.station k)) ∨
       ∃ q, s.bus.queue.head? = some q ∧ frame = .sample (ownSample s.cfg.station q)) := by
  rw [State.nextFrame] at h
  split at h
  · cases h
  · refine ⟨‹_›, ?_⟩
    split at h
    · cases h; exact .inl ⟨_, ‹_›, rfl⟩
    · obtain ⟨q, head, rfl⟩ := Option.map_eq_some_iff.1 h
      exact .inr ⟨q, head, rfl⟩

/-- After an idle gap the frame in progress is the one from before, or one that begins (R27, R35). -/
theorem State.idleGap_sending {s : State} {x : Sending} (h : s.idleGap.bus.sending = some x) :
    s.bus.sending = some x ∨ s.nextFrame = some x.frame := by
  simp only [State.idleGap] at h
  split at h
  · obtain ⟨frame, begun, rfl⟩ := Option.map_eq_some_iff.1 h
    exact .inr begun
  · exact .inl h

theorem State.Paced.idleGap {s : State} (h : s.Paced) : s.idleGap.Paced := by
  refine h.withBus _ ⟨h.bus.mode, fun low => ?_, h.bus.slot, h.bus.young, h.bus.ascending, fun f hf => ?_, fun f hf => ?_,
    nofun⟩ h.errors
  · obtain ⟨slot, queue, released⟩ := h.bus.silent low
    have nothing : s.nextFrame = none := if_pos low
    exact ⟨slot, queue, by simp [released, nothing]⟩
  · rcases State.idleGap_sending hf with hf | begun
    · exact h.bus.mark f hf
    · obtain ⟨-, ⟨k, slot, eq⟩ | ⟨q, -, eq⟩⟩ := State.nextFrame_some begun
      · cases eq; exact ⟨k, slot, rfl⟩
      · cases eq
  · rcases State.idleGap_sending hf with hf | begun
    · exact h.bus.sample f hf
    · obtain ⟨-, ⟨k, -, eq⟩ | ⟨q, head, eq⟩⟩ := State.nextFrame_some begun
      · cases eq
      · cases eq; exact ⟨q, head, rfl⟩

/-- The frame in progress is given up or ends, with slot and queue as they are (R29, R31, R34). -/
theorem State.Paced.release {s : State} (h : s.Paced) (txErrors : Nat) (aborted : Option AbortedFrame)
    (mode : s.bus.mode = .listenOnly ↔ txErrors = 32) (errors : txErrors ≤ 32)
    (inFrame : ∀ a, aborted = some a → a.InFrame) :
    State.Paced { s with bus := { s.bus with txErrors, sending := none, aborted } } :=
  h.withBus _ (.of_released rfl mode h.bus.emptied_of_listenOnly h.bus.slot h.bus.young h.bus.ascending inFrame) errors

theorem State.Paced.loseArbitration {s : State} (h : s.Paced) (bit : Nat) : (s.loseArbitration bit).Paced := by
  rw [State.loseArbitration]
  split
  · exact h
  · split
    · exact h.release _ _ h.bus.mode h.errors h.bus.inFrame
    · exact h

/-- A transmit error lies within its frame (R30, R31). -/
theorem isTransmitError_inFrame {frame : TxFrame} {bit : Nat} (h : isTransmitError frame bit = true) :
    AbortedFrame.InFrame { frame, bit } := by
  simp only [isTransmitError, Bool.and_eq_true, decide_eq_true_eq] at h
  exact h.1

/-- A counted error keeps the mode going with the counter; at 32 slot and queue are emptied (R32, R33). -/
theorem State.Paced.countError {s : State} (h : s.Paced) (released : s.bus.sending = none)
    (below : s.bus.txErrors < 32) : State.Paced { s with bus := s.bus.countError } := by
  rw [Bus.countError]
  split
  · exact h.withBus _ (.of_emptied rfl rfl (fun x hx => absurd (released.symm.trans hx) nofun) (iff_of_true rfl rfl)
      (fun _ => released) h.bus.aborted) (Nat.le_refl 32)
  next few =>
    have active : s.bus.mode ≠ .listenOnly := fun low => absurd (h.bus.mode.1 low) (Nat.ne_of_lt below)
    have few : s.bus.txErrors + 1 < 32 := Nat.not_le.1 few
    exact h.withBus _ (.of_released released (iff_of_false active (Nat.ne_of_lt few))
      h.bus.emptied_of_listenOnly h.bus.slot h.bus.young h.bus.ascending h.bus.inFrame) (Nat.le_of_lt few)

theorem State.Paced.abortFrame {s : State} (h : s.Paced) (bit : Nat) : (s.abortFrame bit).Paced := by
  rw [State.abortFrame]
  split
  · exact h
  next x sending =>
    split
    next error =>
      obtain ⟨-, below⟩ := h.sending sending
      refine (h.release _ (some { frame := x.frame, bit }) h.bus.mode h.errors fun a ha => ?_).countError rfl below
      cases ha
      exact isTransmitError_inFrame error
    · exact h

/-- The request in the slot is withdrawn while nothing is being sent (R12, R36). -/
theorem State.Paced.freeSlot {s : State} (h : s.Paced) (released : s.bus.sending = none) :
    State.Paced { s with bus := { s.bus with slot := none } } :=
  h.withBus _ (.of_released released h.bus.mode (fun low => ⟨rfl, (h.bus.emptied_of_listenOnly low).2⟩) nofun h.bus.young
    h.bus.ascending h.bus.inFrame) h.errors

/-- After ARM, DISARM and RESYNC slot and queue are empty and a frame in progress belongs to neither (R34, R48). -/
theorem Bus.detached_parted (b : Bus) : ∀ x, b.detached = some x → x.owned = false := by
  intro x hx
  obtain ⟨y, -, rfl⟩ := Option.map_eq_some_iff.1 hx
  rfl

/-! ### The updates of the pacer -/

/-- The Odometry Unit may change in any way that keeps A in its range, and at 0 while pacing is inactive. -/
theorem State.Paced.withOdo {s : State} (h : s.Paced) (odo : Odometry) (acc : -16320000 ≤ odo.acc ∧ odo.acc ≤ 256000)
    (idle : s.armed = false → odo.acc = 0) : State.Paced { s with odo } :=
  ⟨⟨acc, idle, h.pacing.running, h.pacing.post⟩, h.bus.frame rfl rfl rfl id, h.errors, h.depth⟩

theorem State.Paced.testRequest {s : State} (h : s.Paced) : s.testRequest.Paced :=
  h.withBus _ (h.bus.testRequest h.pacing) h.errors

theorem State.Paced.edge {s : State} (h : s.Paced) (line : TachLine) :
    ({ s with odo := s.odoAfterEdge line } : State).testRequest.Paced := by
  have acc : (s.odoAfterEdge line).acc = s.accAfterEdge line := rfl
  refine (h.withOdo _ ?_ fun idle => ?_).testRequest
  · rw [acc, State.accAfterEdge]
    split
    · exact clampAcc_bounds _
    · exact h.pacing.acc
  · rw [acc, State.accAfterEdge, idle]
    exact h.pacing.idle idle

/-- A higher post is reached with slot and line free; what stays queued lies behind it. -/
theorem State.Paced.advance {s : State} {n : Nat} (h : s.Paced) (armed : s.armed = true) (rise : s.post < n)
    (top : n ≤ maxPost) (slot : s.bus.slot = none) (released : s.bus.sending = none) :
    ((s.enterPost n).postAdvance n).Paced ∧ ∀ q ∈ ((s.enterPost n).postAdvance n).bus.queue, q.post < n := by
  obtain ⟨bus, behind⟩ := h.bus.advance rise slot released
  exact ⟨⟨.of_running rfl rfl ⟨Nat.zero_lt_of_lt rise, top⟩ h.pacing.acc, bus, h.errors, fun _ => h.depth (.inr armed)⟩,
    behind⟩

/-- The latch event at the current post. -/
theorem State.Paced.latch {s : State} {n : Nat} (h : s.Paced) (k : Nat) (armed : s.armed = true) (post : s.post = n)
    (first : 1 ≤ n) (released : s.bus.sending = none) (behind : ∀ q ∈ s.bus.queue, q.post < n) :
    (s.latch n k).Paced := by
  refine ⟨h.pacing.frame rfl rfl rfl, h.bus.latch post first released behind (h.depth (.inr armed)), ?_, h.depth⟩
  exact (s.bus.append_txErrors _).trans_le h.errors

/-- The own mark that ends without error is the next post (R12, R13). -/
theorem State.Paced.own_mark {s : State} (h : s.Paced) {f : MarkFrame}
    (sending : s.bus.sending = some { frame := .mark f, owned := true }) :
    s.armed = true ∧ f.post.toNat = s.post + 1 ∧ f.post.toNat ≤ maxPost := by
  obtain ⟨k, slot, rfl⟩ := h.bus.mark f sending
  obtain ⟨armed, rfl, top⟩ := h.bus.slot k slot
  have post : (ownMark s.cfg.station (s.post + 1)).post.toNat = s.post + 1 := by
    simp only [maxPost] at top
    simp only [ownMark, sealMark, BitVec.toNat_ofNat]
    omega
  exact ⟨armed, post, post.trans_le top⟩

theorem State.Paced.completeMark {s : State} {k : Nat} (h : s.Paced) (armed : s.armed = true) (rise : s.post < k)
    (top : k ≤ maxPost) (slot : s.bus.slot = none) (released : s.bus.sending = none) : (s.completeMark k).Paced := by
  have taken := h.withOdo { s.odo with acc := clampAcc (s.odo.acc - pitch) } (clampAcc_bounds _)
    fun idle => absurd (armed.symm.trans idle) nofun
  obtain ⟨advanced, behind⟩ := taken.advance armed rise top slot released
  exact (advanced.latch 0 rfl rfl (Nat.zero_lt_of_lt rise) released behind).testRequest

/-- A frame sent to its end is over, with slot and queue as they are; the counter has fallen (R32). -/
theorem State.Paced.frameSent {s : State} (h : s.Paced) {x : Sending} (sending : s.bus.sending = some x) :
    State.Paced { s with bus := s.bus.frameSent } := by
  obtain ⟨active, below⟩ := h.sending sending
  exact h.release _ _ (iff_of_false active (by omega)) (by omega) h.bus.inFrame

theorem State.Paced.sampleSent {s : State} (h : s.Paced) : s.sampleSent.Paced := by
  rw [State.sampleSent]
  split
  next f sending =>
    have sent := h.frameSent sending
    exact sent.withBus _ (.of_released rfl sent.bus.mode (fun low => absurd low (h.sending sending).1) sent.bus.slot
      (fun q hq => sent.bus.young q (List.mem_of_mem_drop hq)) sent.bus.ascending.drop h.bus.inFrame)
      sent.errors
  next f sending => exact h.frameSent sending
  · exact h

theorem State.Paced.markSent {s : State} (h : s.Paced) : s.markSent.Paced := by
  rw [State.markSent]
  split
  next f sending =>
    obtain ⟨armed, next, top⟩ := h.own_mark sending
    exact ((h.frameSent sending).freeSlot rfl).completeMark armed (next ▸ Nat.lt_succ_self _) top rfl rfl
  next f sending => exact h.frameSent sending
  · exact h

/-- A post taken from a peer, up to the post advance: the request is withdrawn, since it is for the next post. -/
theorem State.Paced.takeIndex {s : State} {n : Nat} (h : s.Paced) (armed : s.armed = true) (rise : s.post < n)
    (top : n ≤ maxPost) (released : s.bus.sending = none) :
    ((s.takeIndex n).postAdvance n).Paced ∧ ∀ q ∈ ((s.takeIndex n).postAdvance n).bus.queue, q.post < n := by
  have withdrawn : withdraw n s.bus.slot = none := by
    cases e : s.bus.slot with
    | none => rfl
    | some k =>
      obtain ⟨-, rfl, -⟩ := h.bus.slot k e
      exact if_pos rise
  have taken := (h.freeSlot released).withOdo { s.odo with acc := 0, tachFault := s.odo.tachFault || s.axleSilent }
    (by simp only; omega) fun _ => rfl
  rw [State.takeIndex, withdrawn]
  exact taken.advance armed rise top rfl released

theorem State.Paced.adoptMark {s : State} {n : Nat} (h : s.Paced) (armed : s.armed = true) (rise : s.post < n)
    (top : n ≤ maxPost) (released : s.bus.sending = none) : (s.adoptMark n).Paced := by
  obtain ⟨advanced, behind⟩ := h.takeIndex armed rise top released
  exact advanced.latch _ rfl rfl (Nat.zero_lt_of_lt rise) released behind

theorem State.Paced.takeSample {s : State} (h : s.Paced) (sender : Fin 8) (n : Nat) (x : Sample)
    (armed : s.armed = true) (top : n ≤ maxPost) (released : s.bus.sending = none) :
    (s.takeSample sender n x).Paced := by
  rw [State.takeSample]
  split
  next rise => exact (h.takeIndex armed rise top released).1.frame rfl rfl rfl rfl rfl
  · split
    · split <;> exact h.frame rfl rfl rfl rfl rfl
    · exact h.frame rfl rfl rfl rfl rfl

/-- DISARM and RESYNC end the run: no current post, A is 0, slot and queue are empty, and a frame in progress goes on
(R34, R48, R192, R193). -/
theorem State.Paced.leaveRun {s : State} (h : s.Paced) (armed : s.armed = true) {station : StationState}
    (left : station ≠ .running) : (s.leaveRun station).Paced := by
  refine ⟨.of_no_post rfl left rfl, .of_emptied rfl rfl s.bus.detached_parted h.bus.mode (fun low => ?_)
    fun a ha => ?_, h.errors, fun _ => h.depth (.inr armed)⟩
  · exact congrArg (Option.map _) (h.bus.released_of_listenOnly low)
  · obtain ⟨released, inFrame⟩ := h.bus.aborted a ha
    exact ⟨congrArg (Option.map _) released, inFrame⟩

/-! ### The step lemma -/

/-- Every update of the state keeps pacing and bus together while RESETN is high. -/
theorem keeps_paced : Keeps fun s => s.resetn = true → s.Paced := by
  constructor
  case port => exact fun s port h high => (h high).frame rfl rfl rfl rfl rfl
  case drawn | pending | bothLines | burst | elapse | conflict | recordOut | runOut | alert =>
    intros
    rename_i h high
    exact (h high).frame rfl rfl rfl rfl rfl
  case crcError | duplicate =>
    intro s h high
    obtain ⟨pacing, bus, errors, depth⟩ := h high
    exact ⟨pacing.frame rfl rfl rfl, ⟨bus.mode, bus.silent, bus.slot, bus.young, bus.ascending, bus.mark, bus.sample,
      bus.aborted⟩, errors, depth⟩
  case holdReset => exact fun s h high => nomatch high
  case powerOn =>
    exact fun a b c s h high => ⟨.of_no_post rfl nofun rfl,
      .of_emptied rfl rfl nofun (iff_of_false nofun nofun) nofun nofun, Nat.zero_le 32, nofun⟩
  case endSelfTest =>
    intro failed s test h high
    obtain ⟨pacing, bus, errors, -⟩ := h high
    have idle : s.armed = false := by simp [State.armed, test]
    obtain ⟨slot, queue, parted⟩ := bus.emptied_of_unarmed pacing idle
    have station : (s.endSelfTest failed).control.station = .unconfigured ∨
        (s.endSelfTest failed).control.station = .fault := by
      simp only [State.endSelfTest]; split <;> simp
    refine ⟨.of_no_post (pacing.no_post (by simp [test])) ?_ (pacing.idle idle),
      .of_emptied slot queue parted bus.mode bus.released_of_listenOnly bus.aborted, errors, ?_⟩
    · rcases station with e | e <;> simp [e]
    · rcases station with e | e <;> simp [State.armed, e]
  case edge => exact fun line s h high => (h high).edge line
  case idleGap => exact fun s h high => (h high).idleGap
  case lose =>
    intro bit s h high
    obtain ⟨bus, eq⟩ := s.loseArbitration_frame bit
    exact (h (by rwa [eq] at high)).loseArbitration bit
  case abort =>
    intro bit s h high
    obtain ⟨bus, eq⟩ := s.abortFrame_frame bit
    exact (h (by rwa [eq] at high)).abortFrame bit
  case sampleSent =>
    intro s h high
    obtain ⟨bus, eq⟩ := s.sampleSent_frame
    exact (h (by rwa [eq] at high)).sampleSent
  case markSent => exact fun s h high => (h (s.markSent_resetn ▸ high)).markSent
  case adoptMark =>
    intro n s receives armed may h high
    obtain ⟨-, top, rise⟩ := (s.mayAdopt_iff n).1 may
    obtain ⟨-, released, -⟩ := s.receives_iff.1 receives
    exact (h high).adoptMark armed rise top released
  case takeSample =>
    intro sender n x s receives armed _ top _ _ h high
    obtain ⟨-, released, -⟩ := s.receives_iff.1 receives
    exact (h (s.takeSample_resetn sender n x ▸ high)).takeSample sender n x armed top released
  case accept =>
    intro b s station _ _ h high
    obtain ⟨pacing, bus, errors, -⟩ := h high
    have idle : s.armed = false := by simp [State.armed, station]
    obtain ⟨slot, queue, parted⟩ := bus.emptied_of_unarmed pacing idle
    refine ⟨.of_no_post (pacing.no_post (by simp [station])) nofun (pacing.idle idle),
      .of_emptied slot queue parted bus.mode bus.released_of_listenOnly bus.aborted, errors, fun _ => ?_⟩
    exact Nat.le_trans (by decide) (effective_depth b)
  case refuse => exact fun b s _ h high => (h high).frame rfl rfl rfl rfl rfl
  case arm =>
    intro s station h high
    obtain ⟨pacing, bus, errors, depth⟩ := h high
    refine ⟨.of_no_post rfl nofun rfl, .of_emptied rfl rfl s.bus.detached_parted (iff_of_false nofun nofun) nofun
      fun a ha => ?_, Nat.zero_le 32, fun _ => depth (.inl station)⟩
    obtain ⟨released, inFrame⟩ := bus.aborted a ha
    exact ⟨congrArg (Option.map _) released, inFrame⟩
  case disarm => exact fun s armed h high => (h high).leaveRun armed nofun
  case resync =>
    intro s armed h high
    exact ((h high).leaveRun (station := .joining) armed nofun).frame rfl rfl rfl rfl rfl

/-- Pacing and bus after a step (R2, R8, R12, R31 to R33, R37, R38). -/
theorem step_paced {s t : State} (h : s.Inv) (next : step s = .next t) (high : t.resetn = true) : t.Paced :=
  keeps_paced.step s t h.paced next high

/-- Settles O55: pacing and bus are kept together by every update, with the error counter within its limit and a depth of
at least 1 in force. -/
theorem stepKeepsPacingAndBus : Obligations.StepKeepsPacingAndBus := fun _ _ h next high =>
  ⟨(step_paced h next high).pacing, (step_paced h next high).bus⟩

end Sys2Proof.Machine
end

section
/-! The current post never falls while the run goes on (R8): a property of the state that every command but DISARM, RESYNC
and the reset line's keeps. -/

namespace Sys2Proof.Machine

/-- The station is RUNNING with a current post of at least `n`. -/
def State.PastPost (n : Nat) (s : State) : Prop :=
  s.control.station = .running ∧ ∃ k, s.pacer.currentPost = some k ∧ n ≤ k

/-- The Recorder Port has no part in it. -/
theorem pastPost_portFree (n : Nat) : PortFree (State.PastPost n) := fun _ _ h => h

theorem State.PastPost.le_post {n : Nat} {s : State} (h : s.PastPost n) : n ≤ s.post := by
  obtain ⟨-, k, current, le⟩ := h
  rw [State.post, current]
  exact le

/-- A higher post that is reached is past `n` as well. -/
theorem State.PastPost.reach {n p : Nat} {s t : State} (h : s.PastPost n) (rise : s.post < p)
    (station : t.control.station = .running) (current : t.pacer.currentPost = some p) : t.PastPost n :=
  ⟨station, p, current, Nat.le_trans h.le_post (Nat.le_of_lt rise)⟩

/-- The own mark that ends is for the next post (R12, R13). -/
theorem State.PastPost.markSent {n : Nat} {s : State} (h : s.PastPost n) (paced : s.Paced) : s.markSent.PastPost n := by
  rw [State.markSent]
  split
  next f sending =>
    obtain ⟨-, next, -⟩ := paced.own_mark sending
    exact h.reach (next ▸ Nat.lt_succ_self _) rfl rfl
  · exact h
  · exact h

/-- A received mark is adopted above the current post only (R14, R15). -/
theorem State.PastPost.receiveMark {n : Nat} {s : State} (h : s.PastPost n) (f : MarkFrame) :
    (s.receiveMark f).PastPost n := by
  rw [State.receiveMark, State.takeMark]
  split
  · exact h
  · split
    · split
      · exact h
      · split
        next may =>
          obtain ⟨-, -, rise⟩ := (s.mayAdopt_iff _).1 may
          exact h.reach rise rfl rfl
        · exact h
    · exact h

/-- A delivered sample is adopted above the current post only (R20). -/
theorem State.PastPost.takeSample {n : Nat} {s : State} (h : s.PastPost n) (sender : Fin 8) (p : Nat) (x : Sample) :
    (s.takeSample sender p x).PastPost n := by
  rw [State.takeSample]
  split
  next rise => exact h.reach rise rfl rfl
  · split
    · split <;> exact h
    · exact h

theorem State.PastPost.receiveSample {n : Nat} {s : State} (h : s.PastPost n) (f : SampleFrame) :
    (s.receiveSample f).PastPost n := by
  rw [State.receiveSample, State.disposeSample]
  split
  · exact h
  · split
    · split
      · exact h
      · split
        · exact h
        · split
          · exact h
          · exact h.takeSample _ _ _
    · exact h

/-! ### What the recorder's commands leave -/

/-- A block is accepted in UNCONFIGURED only (R188). -/
theorem State.PastPost.loadConfig {n : Nat} {s : State} (h : s.PastPost n) (b : List Byte) :
    (answerLoadConfig b s).2.PastPost n := by
  have station : s.control.station ≠ .unconfigured := by simp [h.1]
  rw [answerLoadConfig, if_neg station]
  exact h

/-- ARM is taken in CONFIGURED only (R191). -/
theorem State.PastPost.arm {n : Nat} {s : State} (h : s.PastPost n) : (answerArm s).2.PastPost n := by
  have station : s.control.station ≠ .configured := by simp [h.1]
  rw [answerArm, if_neg station]
  exact h

/-- Every command but DISARM, RESYNC and POWER_ON_RESET keeps the station past its post (R8). -/
theorem exec_pastPost {n : Nat} {c : Instr} {s t : State} (h : s.PastPost n) (paced : s.Paced) (high : s.resetn = true)
    (notDisarm : c ≠ .disarm) (notResync : c ≠ .resync) (notReset : c ≠ .powerOnReset) (next : exec c s = .next t) :
    t.PastPost n := by
  have free := pastPost_portFree n
  have on : ∀ f : State → State, (f s).PastPost n → (s.powered f).PastPost n := fun f hf => by
    rwa [State.powered_high high]
  have answered : ∀ code params keeps inFault (body : List Byte → State → Reply × State),
      (∀ p s, State.PastPost n s → (body p s).2.PastPost n) →
      (s.powered (clockIn code params keeps fun p => gated inFault (body p))).PastPost n :=
    fun code params keeps inFault body answer =>
      on _ (free.gatedClockIn code params keeps inFault body (fun p s _ => answer p s) s h)
  cases c
  case powerOnReset => exact absurd rfl notReset
  case disarm => exact absurd rfl notDisarm
  case resync => exact absurd rfl notResync
  all_goals cases next
  case resetnRelease => rw [if_pos high]; exact h
  case selfTestEnd =>
    have station : s.control.station ≠ .selfTest := by simp [h.1]
    exact on _ (by rw [if_neg station]; exact h)
  case tachEdge | burstEnd | busIdleGap | valveExpiry | deselect | bothLinesChanged => exact on _ h
  case stale => exact on _ (by split <;> exact h)
  case arbitrationLost bit =>
    obtain ⟨bus, eq⟩ := s.loseArbitration_frame bit
    exact on _ (by rw [eq]; exact h)
  case transmitError bit =>
    obtain ⟨bus, eq⟩ := s.abortFrame_frame bit
    exact on _ (by rw [eq]; exact h)
  case ownSampleSent =>
    obtain ⟨bus, eq⟩ := s.sampleSent_frame
    exact on _ (by rw [eq]; exact h)
  case ownMarkCompletion => exact on _ (h.markSent paced)
  case markFrame f => exact on _ (h.receiveMark f)
  case sampleFrame f => exact on _ (h.receiveSample f)
  case recordShiftedOut | runShiftedOut | historyEntryLookup | historyEntryShiftedOut =>
    refine on _ ?_
    simp only [State.recordOut, State.runOut, State.lookUpEntry, State.entryOut]
    split
    · split <;> exact h
    · exact h
  case identify => exact on _ (free.clockIn _ _ _ _ (fun _ _ _ h => h) s h)
  case unknownCommand code =>
    refine on _ ?_
    split
    · exact h
    · exact free.clockIn _ _ _ _ (fun _ _ _ h => h) s h
  case readStatus | setMask | setModes => exact answered _ _ _ _ _ fun _ _ h => h
  case loadConfig => exact answered _ _ _ _ _ fun b _ h => h.loadConfig b
  case arm => exact answered _ _ _ _ _ fun _ _ h => h.arm
  case takeResults | takeRuns | acknowledge | clearPending | historyWindow =>
    refine answered _ _ _ _ _ fun p s h => ?_
    simp only [answerTakeResults, answerTakeRuns, answerAcknowledge, answerClearPending, answerHistoryWindow]
    split <;> exact h
  case endService | historyRead =>
    refine answered _ _ _ _ _ fun p s h => ?_
    simp only [answerEndService, answerHistoryRead]
    split
    · exact h
    · split <;> exact h

/-- Settles O56: a station with a current post is RUNNING, and only a higher post replaces it. -/
theorem currentPostNeverFalls : Obligations.CurrentPostNeverFalls := by
  intro c s t inv high notDisarm notResync notReset next n current
  have station : s.control.station = .running := (inv.pacing high).running.1 (by rw [current]; rfl)
  exact (exec_pastPost ⟨station, n, current, Nat.le_refl n⟩ (inv.paced high) high notDisarm notResync notReset next).2

end Sys2Proof.Machine
end

section
/-! Distance and pacing: tach edges, requests, completion, adoption, latch event and post advance, each in the fields that
change (R1 to R6, R10 to R22, R36 to R38, R72, R73, R158 to R160). -/

namespace Sys2Proof.Machine

/-! ### Tach edges and mark requests -/

/-- The table of R1: forward when TACA changes from equal levels or TACB from unequal ones. -/
theorem forwardNormal_eq (tacA tacB : Bool) (line : TachLine) :
    forwardNormal tacA tacB line = ((line == .tacA) == (tacA == tacB)) := by
  cases tacA <;> cases tacB <;> cases line <;> rfl

/-- The index a request carries: 1 without a current post, else the one after it (R10). -/
theorem State.nextIndex_eq (s : State) :
    s.nextIndex = match s.pacer.currentPost with
      | none => 1
      | some n => n + 1 := by
  rw [State.nextIndex, State.post]
  cases s.pacer.currentPost <;> rfl

/-- A request is placed exactly when all conditions of R10 hold. -/
theorem State.testRequest_eq (s : State) {asks : Prop} [Decidable asks] {index : Nat} (may : s.mayRequest = true ↔ asks)
    (next : s.nextIndex = index) :
    s.testRequest = { s with bus := { s.bus with slot := if asks then some index else s.bus.slot } } := by
  simp only [State.testRequest, may, next]

/-- Settles O6: the edge sets the Odometry Unit as stated, and the test of R10 comes after it, with tach-fault clear. -/
theorem tachLinesCountAndRequest : Obligations.TachLinesCountAndRequest := by
  intro line s high forward moved armed acc asks index
  have odo : s.odoAfterEdge line = { s.odo with
      tacA := if line = .tacA then !s.odo.tacA else s.odo.tacA
      tacB := if line = .tacB then !s.odo.tacB else s.odo.tacB
      acc, edgeAge := some 0, tachFault := false } := by
    have after : s.accAfterEdge line = acc := by
      simp only [State.accAfterEdge, State.armed_iff, State.forward, forwardNormal_eq]
      rfl
    rw [State.odoAfterEdge, after]
  have may : State.mayRequest { s with odo := s.odoAfterEdge line } = true ↔ asks := by
    rw [State.mayRequest_iff, odo, State.armed_iff]
    exact ⟨fun ⟨armed, full, _, free⟩ => ⟨armed, full, free⟩, fun ⟨armed, full, free⟩ => ⟨armed, full, rfl, free⟩⟩
  have request := State.testRequest_eq { s with odo := s.odoAfterEdge line } may (s.nextIndex_eq : _ = index)
  have after := congrArg (fun odo => ({ s with
    odo, bus := { s.bus with slot := if asks then some index else s.bus.slot } } : State)) odo
  exact ⟨congrArg _ ((State.powered_high high _).trans (request.trans after)), congrArg _ (State.powered_high high _)⟩

/-- Settles O7, by the model's order of R13 and the conditions of R10 one by one. -/
theorem ownMarkCompletionReachesItsPost : Obligations.OwnMarkCompletionReachesItsPost := by
  refine ⟨fun f s high sending => ?_, fun s => ?_⟩
  · have sent : s.markSent = State.completeMark f.post.toNat { s with bus := { s.bus.frameSent with slot := none } } := by
      rw [State.markSent, sending]
    exact congrArg _ ((State.powered_high high _).trans sent)
  · refine s.testRequest_eq ?_ s.nextIndex_eq
    rw [s.mayRequest_iff, s.armed_iff]
    rfl

/-! ### Foreign marks -/

/-- The tach-fault condition at an adoption (R4). -/
theorem State.axleSilent_eq (s : State) :
    s.axleSilent = match s.odo.edgeAge with
      | none => true
      | some age => decide (10000 * s.cfg.tachLossSteps < age) := by
  rw [State.axleSilent]
  cases s.odo.edgeAge with
  | none => rfl
  | some age => exact congrArg (fun limit => decide (limit < age)) (Nat.mul_comm _ _)

/-- An index may be adopted exactly when it is a post index above the current post, if there is one (R14, R15, R19). -/
theorem State.mayAdopt_above (n : Nat) (s : State) :
    s.mayAdopt n = true ↔ 1 ≤ n ∧ n ≤ maxPost ∧ ∀ c, s.pacer.currentPost = some c → c < n := by
  rw [s.mayAdopt_iff, State.post]
  cases s.pacer.currentPost with
  | none => simp; omega
  | some c => simp

/-- The Post Pacer takes an index from a peer, field by field (R4, R12, R15). -/
theorem State.takeIndex_eq (n : Nat) (s : State) :
    s.takeIndex n = { s with
      odo := { s.odo with
        acc := 0
        tachFault := s.odo.tachFault || match s.odo.edgeAge with
          | none => true
          | some age => decide (10000 * s.cfg.tachLossSteps < age) }
      bus := { s.bus with slot := match s.bus.slot with
        | none => none
        | some k => if k ≤ n then none else some k }
      pacer := { s.pacer with currentPost := some n }
      control := { s.control with station := .running } } := by
  rw [← State.axleSilent_eq]
  rfl

/-- A good mark that is received while JOINING or RUNNING is adopted or counted (R9, R14, R15). -/
theorem State.receiveMark_good {f : MarkFrame} {s : State} (receives : s.receives = true) (good : markGood f = true)
    (armed : s.armed = true) :
    s.receiveMark f = if s.mayAdopt f.post.toNat then s.adoptMark f.post.toNat else s.countConflict := by
  simp [State.receiveMark, State.takeMark, receives, good, armed]

/-- Settles O8: the mark is delivered and its index may be adopted. -/
theorem foreignMarkAboveIsAdopted : Obligations.ForeignMarkAboveIsAdopted := by
  intro f s high heard released undriven good armed n first top above
  have may : s.mayAdopt n = true := (s.mayAdopt_above n).2 ⟨first, top, above⟩
  have adopted : s.receiveMark f = s.adoptMark n := by
    rw [State.receiveMark_good (s.receives_iff.2 ⟨heard, released, undriven⟩) good (s.armed_iff.2 armed), if_pos may]
  refine congrArg _ ((State.powered_high high _).trans (adopted.trans ?_))
  rw [State.adoptMark, State.takeIndex_eq]
  rfl

/-- Settles O9: in each of the three cases the index may not be adopted. -/
theorem markNotAboveIsCounted : Obligations.MarkNotAboveIsCounted := by
  intro f s high heard released undriven good armed below
  have stays : ¬ s.mayAdopt f.post.toNat = true := by
    rw [s.mayAdopt_above]
    rintro ⟨first, top, above⟩
    rcases below with zero | beyond | ⟨c, current, le⟩
    · omega
    · exact absurd top (Nat.not_le_of_lt beyond)
    · exact absurd (above c current) (Nat.not_lt_of_le le)
  have counted : s.receiveMark f = s.countConflict := by
    rw [State.receiveMark_good (s.receives_iff.2 ⟨heard, released, undriven⟩) good (s.armed_iff.2 armed), if_neg stays]
  refine congrArg _ ((State.powered_high high _).trans (counted.trans ?_))
  rw [State.countConflict, addSat16_one]

/-! ### The latch event -/

/-- The speed of an interval (R6). -/
theorem speedOf_eq (interval : Nat) :
    speedOf interval = if interval = 0 then 65535
      else if 65535 < 25000000 / interval then 65535 else 25000000 / interval := by
  rw [speedOf]
  split
  · rfl
  · split <;> omega

/-- The row a latch opens is READY exactly when no peer is needed (R71, R73). -/
theorem latchedRow_eq (c : StationConfig) (post skipped : Nat) (speed : Option Nat) (own : Slot)
    (onlyOwn : Prop) [Decidable onlyOwn] (h : onlyOwn ↔ ∀ i : Fin 8, inSet c.needed i = true → i = c.station) :
    latchedRow c post skipped speed own =
      { post, state := if onlyOwn then .ready else .opened, origin := .latched, skippedBefore := skipped, speed,
        slots := (Vector.replicate 8 none).set c.station (some own) } := by
  let row : Row :=
    { post, state := .opened, origin := .latched, skippedBefore := skipped, speed,
      slots := emptySlots.set c.station (some own) }
  have slot : ∀ i : Fin 8, row.slots[i].isSome = true ↔ i = c.station := fun i => by
    rw [Fin.ext_iff]
    simp only [row, emptySlots, Fin.getElem_fin, Vector.getElem_set, Vector.getElem_replicate]
    split <;> simp <;> omega
  have met : needsMet c row = true ↔ onlyOwn := by simp only [needsMet_iff, slot, h]
  rw [latchedRow, judgeRow_eq]
  simp only [row, met]
  rfl

/-- What the bus holds after a sample is queued (R33, R37). -/
theorem Bus.append_fields (q : QueuedSample) (b : Bus) :
    b.append q =
      if b.mode = .listenOnly then b
      else if b.queue.length < 4 then { b with queue := b.queue ++ [q] }
      else { b with queue := b.queue.tail ++ [q],
                    samplesShed := if b.samplesShed < 65535 then b.samplesShed + 1 else b.samplesShed } := by
  rw [Bus.append]
  by_cases full : 4 ≤ b.queue.length
  · simp only [full, Nat.not_lt.2 full, if_true, if_false, List.drop_one, addSat16_one]
  · simp only [full, Nat.not_le.1 full, if_true, if_false]

/-- Settles O10: speed, row and sample queue each as its own lemma has it. -/
theorem latchEventOpensRowAndQueuesSample : Obligations.LatchEventOpensRowAndQueuesSample := by
  intro n skipped s own speed onlyOwn row opened sample
  have latchSpeed : s.latchSpeed n = speed := by
    simp only [State.latchSpeed, speedOf_eq]
    rfl
  have opens : latchedRow s.cfg n skipped (s.latchSpeed n) own = row := by
    rw [latchedRow_eq s.cfg n skipped _ own (onlyOwn := onlyOwn) Iff.rfl, latchSpeed]
  calc s.latch n skipped
      = (let opened := (s.closeInterval n).openRow (latchedRow s.cfg n skipped (s.latchSpeed n) own)
         { opened with bus := opened.bus.append sample }) := rfl
    _ = { opened with bus := s.bus.append sample } := by rw [opens]; rfl
    _ = _ := by rw [Bus.append_fields]

/-! ### The post advance -/

/-- An action is due exactly when the queue holds it (R159). -/
theorem dueAt_iff (p : Nat) (x : Nozzle) (queue : List MarkAction) :
    dueAt p x queue = true ↔ { due := p, nozzle := x } ∈ queue := by
  simp only [dueAt, List.any_eq_true, Bool.and_eq_true, beq_iff_eq]
  constructor
  · rintro ⟨a, held, rfl, rfl⟩
    exact held
  · exact fun held => ⟨_, held, rfl, rfl⟩

/-- A nozzle's valve at a post advance (R159, R160). -/
theorem firedValve_eq (c : StationConfig) (p : Nat) (x : Nozzle) (queue : List MarkAction) (v : Valve) :
    (if dueAt p x queue then firedValve c x v else v) =
      match c.nozzle x with
      | none => v
      | some n => if { due := p, nozzle := x } ∈ queue then .opened (10000 * n.pulse) else v := by
  simp only [dueAt_iff, firedValve]
  cases c.nozzle x with
  | none => exact ite_self v
  | some n => simp only [Nat.mul_comm]

/-- What an advance leaves queued, and what it sheds (R38). -/
theorem Bus.shed_eq (w p : Nat) (b : Bus) :
    b.shed w p =
      { b with
        queue := b.queue.filter fun q => decide (p < q.post + w)
        samplesShed := max b.samplesShed
          (min 65535 (b.samplesShed + (b.queue.filter fun q => decide (q.post + w ≤ p)).length)) } := by
  have young : ∀ q : QueuedSample, (!q.obsolete w p) = decide (p < q.post + w) := fun q => by
    rw [QueuedSample.obsolete, ← decide_not]
    exact decide_eq_decide.2 Nat.not_le
  simp only [Bus.shed, young]
  rfl

/-- Settles O11: marker, raised edge and bus before the rows expire. -/
theorem postAdvanceFiresShedsAndExpires : Obligations.PostAdvanceFiresShedsAndExpires := by
  intro p s missed shed pulse
  have marker : s.marker.advance s.cfg p =
      { queue := s.marker.queue.filter fun a => decide (p < a.due)
        left := pulse .left s.marker.left
        right := pulse .right s.marker.right
        missed := max s.marker.missed (min 65535 (s.marker.missed + missed)) } := by
    rw [Marker.advance, firedValve_eq, firedValve_eq]
    rfl
  have raised : (!(passedActions p s.marker.queue).isEmpty) = true ↔ 0 < missed := by
    rw [Bool.not_eq_true', List.isEmpty_eq_false_iff, List.length_pos_iff]
    rfl
  calc s.postAdvance p
      = State.expireRows p { s with
          marker := s.marker.advance s.cfg p
          alert := s.alert.raiseIf (!(passedActions p s.marker.queue).isEmpty) markEdge
          bus := s.bus.shed s.cfg.depth p } := rfl
    _ = _ := by
      rw [marker, Bus.shed_eq, Alert.raiseIf]
      simp only [raised]
      rfl

end Sys2Proof.Machine
end

section
/-! Frames received and frames sent: what becomes of each (R9, R20, R29 to R44, R74 to R79). -/

namespace Sys2Proof.Machine

/-! ### Frames received -/

/-- A MARK frame is good when its CRC matches and both end bits are released (R40). -/
theorem markGood_iff (f : MarkFrame) : markGood f = true ↔ f.crc = crcBits (markCovered f) ∧ f.ending = 3#2 := by
  simp [markGood]

/-- A SAMPLE frame is good when its CRC matches and both end bits are released (R40). -/
theorem sampleGood_iff (f : SampleFrame) :
    sampleGood f = true ↔ f.crc = crcBits (sampleCovered f) ∧ f.ending = 3#2 := by
  simp [sampleGood]

/-- The sender of a frame is the station itself exactly when the numbers agree. -/
theorem senderOf_eq_iff (sender : BitVec 3) (station : Fin 8) : senderOf sender = station ↔ sender.toNat = station.val :=
  Fin.ext_iff

/-- Not receiving: no idle gap heard yet, sending, or driving out a frame (R18, R31, R43, R47). -/
theorem State.receives_eq_false {s : State}
    (h : s.bus.heardIdle = false ∨ s.bus.sending ≠ none ∨ s.bus.aborted ≠ none) : s.receives = false := by
  rw [Bool.eq_false_iff, Ne, s.receives_iff]
  rintro ⟨heard, released, undriven⟩
  rcases h with deaf | sending | driving
  · exact absurd (heard.symm.trans deaf) nofun
  · exact sending released
  · exact driving undriven

/-- A frame that is not good is counted (R40). -/
theorem State.receiveMark_bad {f : MarkFrame} {s : State} (receives : s.receives = true) (bad : ¬ markGood f = true) :
    s.receiveMark f = s.countCrcError := by
  simp [State.receiveMark, receives, bad]

theorem State.receiveSample_bad {f : SampleFrame} {s : State} (receives : s.receives = true)
    (bad : ¬ sampleGood f = true) : s.receiveSample f = s.countCrcError := by
  simp [State.receiveSample, receives, bad]

/-- A good sample is disposed of by R42. -/
theorem State.receiveSample_good {f : SampleFrame} {s : State} (receives : s.receives = true)
    (good : sampleGood f = true) : s.receiveSample f = s.disposeSample f := by
  simp [State.receiveSample, receives, good]

/-- A counted CRC error (R40, R42). -/
theorem State.countCrcError_eq (s : State) :
    s.countCrcError = { s with bus := { s.bus with crcErrors :=
      if s.bus.crcErrors < 65535 then s.bus.crcErrors + 1 else s.bus.crcErrors } } := by
  rw [State.countCrcError, addSat16_one]

/-- Settles O15, by what the receiver and R42 make of each frame. -/
theorem frameNotDeliveredIsDisposedOf : Obligations.FrameNotDeliveredIsDisposedOf := by
  intro m p s high up counted armed goodMark goodSample
  have mark : ∀ {t}, s.receiveMark m = t → exec (.markFrame m) s = .next t := fun h =>
    congrArg _ ((State.powered_high high _).trans h)
  have sample : ∀ {t}, s.receiveSample p = t → exec (.sampleFrame p) s = .next t := fun h =>
    congrArg _ ((State.powered_high high _).trans h)
  refine ⟨fun deaf => ?_, fun heard released undriven => ?_⟩
  · have silent := State.receives_eq_false deaf
    exact ⟨mark (by simp [State.receiveMark, silent]), sample (by simp [State.receiveSample, silent])⟩
  have receives : s.receives = true := s.receives_iff.2 ⟨heard, released, undriven⟩
  have idle : ¬ armed → s.armed = false := fun h => Bool.eq_false_iff.2 fun ha => h (s.armed_iff.1 ha)
  refine ⟨fun bad => ?_, fun bad => ?_, fun good unarmed => ?_, fun good unarmed => ?_, fun good ha own => ?_,
    fun good ha other post => ?_⟩
  · exact mark ((State.receiveMark_bad receives (mt (markGood_iff m).1 bad)).trans s.countCrcError_eq)
  · exact sample ((State.receiveSample_bad receives (mt (sampleGood_iff p).1 bad)).trans s.countCrcError_eq)
  · exact mark (by simp [State.receiveMark, State.takeMark, receives, (markGood_iff m).2 good, idle unarmed])
  · refine sample ((State.receiveSample_good receives ((sampleGood_iff p).2 good)).trans ?_)
    simp [State.disposeSample, idle unarmed]
  · refine sample ((State.receiveSample_good receives ((sampleGood_iff p).2 good)).trans ?_)
    have own : senderOf p.sender = s.cfg.station := (senderOf_eq_iff _ _).2 own
    simp only [State.disposeSample, s.armed_iff.2 ha, own, if_true, State.countDuplicateStation, addSat16_one]
    rfl
  · refine sample ((State.receiveSample_good receives ((sampleGood_iff p).2 good)).trans ?_)
    have other : senderOf p.sender ≠ s.cfg.station := mt (senderOf_eq_iff _ _).1 other
    have post : p.post.toNat = 0 ∨ maxPost < p.post.toNat := post
    simp only [State.disposeSample, s.armed_iff.2 ha, other, post, if_true, if_false, State.countCrcError_eq]
    rfl

/-! ### Delivered samples -/

/-- A set is empty when it holds none of the eight numbers. -/
theorem eq_zero_iff_inSet (b : Byte) : b = 0 ↔ ∀ i : Fin 8, ¬ inSet b i = true := by
  refine ⟨fun h i => by simp [h, inSet], fun h => BitVec.eq_of_getLsbD_eq fun i hi => ?_⟩
  exact (Bool.eq_false_iff.2 (h ⟨i, hi⟩)).trans BitVec.getLsbD_zero.symm

/-- The row of an implicit adoption is READY only when no station is needed at all (R71, R74). -/
theorem unlatchedRow_eq (c : StationConfig) (post skipped : Nat) :
    unlatchedRow c post skipped =
      { post, state := if c.needed = 0 then .ready else .opened, origin := .noOwnLatch, skippedBefore := skipped,
        speed := none, slots := Vector.replicate 8 none } := by
  let row : Row :=
    { post, state := .opened, origin := .noOwnLatch, skippedBefore := skipped, speed := none, slots := emptySlots }
  have absent : ∀ i : Fin 8, row.slots[i] = none := fun i => by simp [row, emptySlots]
  have met : needsMet c row = true ↔ c.needed = 0 := by
    simp only [needsMet_iff, absent, eq_zero_iff_inSet, Option.isSome_none, Bool.false_eq_true, imp_false]
  rw [unlatchedRow, judgeRow_eq]
  simp only [row, met]
  rfl

/-- Implicit adoption, in the order of R20: index, post advance, row. -/
theorem State.adoptSilently_eq (n : Nat) (s : State) :
    s.adoptSilently n = ((s.takeIndex n).postAdvance n).openRow (unlatchedRow s.cfg n (s.skippedCount n)) := rfl

/-- Settles O20: the sample is delivered, and the case split of R76 is that on the current post, the row and its slot. -/
theorem deliveredSampleTakesOneOfFourCases : Obligations.DeliveredSampleTakesOneOfFourCases := by
  intro f s high heard released undriven good armed other n sender up first top silent skipped taken row
  have receives : s.receives = true := s.receives_iff.2 ⟨heard, released, undriven⟩
  have delivered : exec (.sampleFrame f) s = .next (s.takeSample sender n (frameSample f)) := by
    refine congrArg _ ((State.powered_high high _).trans ((State.receiveSample_good receives good).trans ?_))
    have other : senderOf f.sender ≠ s.cfg.station := mt (senderOf_eq_iff _ _).1 other
    have index : ¬ (f.post.toNat = 0 ∨ maxPost < f.post.toNat) :=
      not_or.2 ⟨Nat.ne_of_gt first, Nat.not_lt_of_le top⟩
    simp only [State.disposeSample, s.armed_iff.2 armed, other, index, if_false]
    rfl
  simp only [delivered]
  refine ⟨fun above => congrArg _ ?_, fun c current le => ?_⟩
  · have rise : s.post < n := ((s.mayAdopt_iff n).1 ((s.mayAdopt_above n).2 ⟨first, top, above⟩)).2.2
    rw [State.takeSample, if_pos rise, State.adoptSilently_eq, State.takeIndex_eq, unlatchedRow_eq]
    rfl
  · have held : ¬ s.post < n := by
      rw [State.post, current]
      exact Nat.not_lt_of_le le
    rw [State.takeSample, if_neg held, State.rowFor]
    refine ⟨fun r find => ⟨fun absent => ?_, fun present => ?_⟩, fun find => ?_⟩
    · rw [find]
      simp only [absent, Option.isNone_none, if_true]
    · rw [find]
      simp only [Option.isNone_iff_eq_none, present, if_false, addSat16_one]
      rfl
    · rw [find]
      simp only [addSat16_one]
      rfl

/-! ### Frames sent -/

/-- Settles O13, by the kind and the owner of the frame in progress. -/
theorem sendingEndsByLossOrSuccess : Obligations.SendingEndsByLossOrSuccess := by
  intro x s high sending
  have on : ∀ {f : State → State} {t}, f s = t → Host.Outcome.next (φ := Fault) (ρ := Refusal) (s.powered f) = .next t :=
    fun h => congrArg _ ((State.powered_high high _).trans h)
  refine ⟨fun bit low up released => on ?_, ?_, ?_, ?_⟩
  · have lost : losesArbitration x.frame bit = true := by simp [losesArbitration, low, up, released]
    rw [State.loseArbitration, sending]
    exact if_pos lost
  · rintro f rfl
    refine on ?_
    rw [State.sampleSent, sending]
    simp only [List.drop_one]
    rfl
  · rintro f rfl
    refine on ?_
    rw [State.sampleSent, sending]
    rfl
  · rintro f rfl
    refine on ?_
    rw [State.markSent, sending]
    rfl

end Sys2Proof.Machine
end

section
/-! The queue, the timer, reset, and the commands that begin and end a run (R7, R26, R48, R66, R88, R124, R140, R153, R165,
R180 to R182, R191 to R193). -/

namespace Sys2Proof.Machine

/-! ### Steps, ticks and reset -/

/-- Settles O1: it is the second case of a step. -/
theorem stepTakesTheFrontCommand : Obligations.StepTakesTheFrontCommand := fun _ _ _ => rfl

/-- A valve after 1 µs (R160). -/
theorem Valve.after_one (v : Valve) : v.after 1 = match v with
    | .closed => .closed
    | .opened r => if r ≤ 1 then .closed else .opened (r - 1) := by
  cases v <;> rfl

/-- Settles O2: ages and interval saturate, and valves count down, each by 1. -/
theorem idleStepIsOneMicrosecond : Obligations.IdleStepIsOneMicrosecond := by
  intro s up down
  have age : ∀ a, ageAfter 1 a = a.map up := fun a => by
    simp only [ageAfter, addUpTo_one]
    rfl
  have interval : ∀ l : LastLatch, l.after 1 = { l with interval := up l.interval } := fun l => by
    rw [LastLatch.after, addUpTo_one]
    rfl
  have valve : ∀ v : Valve, v.after 1 = down v := Valve.after_one
  show Host.Outcome.next (State.elapse 1 _) = _
  simp only [State.elapse, age, interval, valve]

/-- Settles O5, by the guards of the two events. -/
theorem releaseAndSelfTestEnd : Obligations.ReleaseAndSelfTestEnd := by
  refine ⟨fun tacA tacB selected s high => ?_, fun tacA tacB selected s low => ?_, fun failed s high test => ?_⟩
  · exact congrArg _ (if_pos high)
  · exact congrArg _ (if_neg (by simp [low]))
  · exact congrArg _ ((State.powered_high high _).trans (if_pos test))

/-! ### ARM, DISARM and RESYNC -/

/-- A command without parameters that is taken outside SELF_TEST and FAULT is answered from the state with an empty
port. -/
theorem State.takesTransactions.bare_command {s : State} (h : s.takesTransactions) {code : Byte}
    (params : paramCount code = 0) (test : s.control.station ≠ .selfTest) (fault : s.control.station ≠ .fault)
    (body : State → Reply × State) :
    s.powered (clockIn code [] false fun _ => gated false body) =
      (body { s with port := Port.initial }).2.respond [code] (body { s with port := Port.initial }).1 := by
  rw [State.powered_high h.1, clockIn_whole h (params := []) params.symm, takeCommand_open test fault, takeCommand_plain]

/-- Settles O44: ARM is taken in CONFIGURED alone. -/
theorem armStartsAFreshRun : Obligations.ArmStartsAFreshRun := by
  intro s takes
  have answered := fun test fault => takes.bare_command (code := 17) rfl test fault answerArm
  refine ⟨fun others => congrArg Host.Outcome.next ?_, fun station => congrArg Host.Outcome.next ?_⟩
  · have among : ∀ x, s.control.station = x → x = .unconfigured ∨ x = .joining ∨ x = .running := fun x e => e ▸ others
    rw [answered (fun e => by simpa using among _ e) (fun e => by simpa using among _ e), answerArm,
      if_neg (fun e => by simpa using among _ e)]
    rfl
  · rw [answered (by simp [station]) (by simp [station]), answerArm, if_pos station]
    rfl

/-- A FORCED close touches the tracker alone: it makes no marking request (R140, R143). -/
theorem closeRun_forced (e : TrackEnv) (i : Fin 8) (m : TrackedMeasure) (r : OpenRun) (t : Tracks) :
    (closeRun e i m .forced r t).marker = t.marker ∧ (closeRun e i m .forced r t).alert = t.alert := by
  simp only [closeRun]
  split <;> exact ⟨rfl, rfl⟩

theorem forceMeasure_frame (e : TrackEnv) (t : Tracks) (im : Fin 8 × TrackedMeasure) :
    (forceMeasure e t im).marker = t.marker ∧ (forceMeasure e t im).alert = t.alert := by
  rw [forceMeasure]
  split
  · exact ⟨rfl, rfl⟩
  · exact closeRun_forced e _ _ _ t

/-- After a FORCED close of measure `i` it is IDLE, and the other measures are as before. -/
theorem forceMeasure_runs (e : TrackEnv) (t : Tracks) (im : Fin 8 × TrackedMeasure) :
    (forceMeasure e t im).tracker.runs = t.tracker.runs.set im.1 none := by
  rw [forceMeasure]
  split
  next idle =>
    rw [← idle]
    simp
  · exact closeRun_runs ..

/-- The FORCED closes of a list of measures, one after the other: tracker alone, each measure of the list IDLE, the others
as before. -/
theorem foldl_forceMeasure (e : TrackEnv) (l : List (Fin 8 × TrackedMeasure)) (t : Tracks) :
    (l.foldl (forceMeasure e) t).marker = t.marker ∧ (l.foldl (forceMeasure e) t).alert = t.alert ∧
      ∀ i : Fin 8, (l.foldl (forceMeasure e) t).tracker.runs[i] =
        if i ∈ l.map Prod.fst then none else t.tracker.runs[i] := by
  induction l generalizing t with
  | nil => exact ⟨rfl, rfl, fun i => by simp⟩
  | cons im rest ih =>
    obtain ⟨marker, alert, runs⟩ := ih (forceMeasure e t im)
    obtain ⟨marker', alert'⟩ := forceMeasure_frame e t im
    refine ⟨marker.trans marker', alert.trans alert', fun i => ?_⟩
    rw [List.foldl_cons, runs, forceMeasure_runs]
    simp only [List.map_cons, List.mem_cons, Fin.getElem_fin, Vector.getElem_set, Fin.ext_iff, eq_comm (a := im.1.val)]
    by_cases listed : i ∈ rest.map Prod.fst
    · simp only [listed, or_true, if_true]
    · simp only [listed, or_false, if_false]

/-- A position is that of a tracked measure exactly when it is below their number (R127). -/
theorem mem_indexedMeasures (c : StationConfig) (i : Fin 8) :
    i ∈ (indexedMeasures c).map Prod.fst ↔ i.val < c.measures.length := by
  have position : ∀ i : Fin 8, eight[i.val]? = some i := by decide
  constructor
  · intro listed
    obtain ⟨⟨j, m⟩, held, rfl⟩ := List.mem_map.1 listed
    obtain ⟨k, place⟩ := List.mem_iff_getElem?.1 held
    obtain ⟨number, measure⟩ := List.getElem?_zip_eq_some.1 place
    have short : k < 8 := (List.getElem?_eq_some_iff.1 number).1
    obtain rfl : ⟨k, short⟩ = j := Option.some.inj ((position ⟨k, short⟩).symm.trans number)
    exact (List.getElem?_eq_some_iff.1 measure).1
  · intro configured
    refine List.mem_map.2 ⟨(i, c.measures[i.val]), List.mem_iff_getElem?.2 ⟨i.val, ?_⟩, rfl⟩
    exact List.getElem?_zip_eq_some.2 ⟨position i, List.getElem?_eq_getElem configured⟩

/-- Settles O45: the FORCED closes touch the tracker alone and leave each configured measure IDLE. -/
theorem disarmAndResyncLeaveTheRun : Obligations.DisarmAndResyncLeaveTheRun := by
  intro s takes
  have disarm := fun test fault => takes.bare_command (code := 18) rfl test fault answerDisarm
  have resync := fun test fault => takes.bare_command (code := 19) rfl test fault answerResync
  refine ⟨fun others => ?_, ?_⟩
  · have idle : ¬ State.armed { s with port := Port.initial } = true := by
      rw [State.armed_iff]
      rcases others with e | e <;> simp [e]
    have test : s.control.station ≠ .selfTest := by rcases others with e | e <;> simp [e]
    have fault : s.control.station ≠ .fault := by rcases others with e | e <;> simp [e]
    refine ⟨congrArg Host.Outcome.next ?_, congrArg Host.Outcome.next ?_⟩
    · rw [disarm test fault, answerDisarm, if_neg idle]
      rfl
    · rw [resync test fault, answerResync, if_neg idle]
      rfl
  · intro armed e forced left
    have on : State.armed { s with port := Port.initial } = true := (State.armed_iff _).2 armed
    have test : s.control.station ≠ .selfTest := by rcases armed with e | e <;> simp [e]
    have fault : s.control.station ≠ .fault := by rcases armed with e | e <;> simp [e]
    obtain ⟨marker, alert, runs⟩ :=
      foldl_forceMeasure e (indexedMeasures s.cfg) { tracker := s.tracker, marker := s.marker, alert := s.alert }
    have leaves : ∀ station, State.leaveRun { s with port := Port.initial } station =
        { left with port := Port.initial, control := { s.control with station } } := by
      intro station
      have tracks : State.forcedTracks { s with port := Port.initial } = forced := rfl
      have marker : forced.marker = s.marker := marker
      have alert : forced.alert = s.alert := alert
      rw [State.leaveRun, tracks, marker, alert]
      rfl
    refine ⟨congrArg Host.Outcome.next ?_, congrArg Host.Outcome.next ?_, fun i m configured => ?_, fun i beyond => ?_⟩
    · rw [disarm test fault, answerDisarm, if_pos on, leaves]
      rfl
    · rw [resync test fault, answerResync, if_pos on, leaves]
      rfl
    · have listed : i ∈ (indexedMeasures s.cfg).map Prod.fst :=
        (mem_indexedMeasures s.cfg i).2 (List.getElem?_eq_some_iff.1 configured).1
      exact (runs i).trans (if_pos listed)
    · have unlisted : i ∉ (indexedMeasures s.cfg).map Prod.fst :=
        fun h => absurd ((mem_indexedMeasures s.cfg i).1 h) (Nat.not_lt_of_le beyond)
      exact (runs i).trans (if_neg unlisted)

/-! ### The invariant at reset -/

/-- Settles O52: every store is empty, there is no current post, and nothing is being sent. -/
theorem invariantHoldsAtReset : Obligations.InvariantHoldsAtReset where
  stores := ⟨Nat.zero_le _, Nat.zero_le _, Nat.zero_le _, Nat.zero_le _, Nat.zero_le _, Nat.zero_le _, Nat.zero_le _⟩
  counters := by
    have zero : State.reset.counters = List.replicate 26 0 := rfl
    intro n hn
    rw [zero] at hn
    rw [List.eq_of_mem_replicate hn]
    exact Nat.zero_le _
  values := ⟨nofun, List.forall_mem_nil _, List.forall_mem_nil _, List.forall_mem_nil _⟩
  control _ :=
    { lock := by simp [State.reset, Control.initial]
      block := rfl
      config := rfl
      judged := nofun
      fault := by simp [State.reset, Control.initial]
      refusal := nofun
      receiver := iff_of_true rfl rfl }
  pacing _ := .of_no_post rfl nofun rfl
  bus _ := .of_emptied rfl rfl nofun (iff_of_false nofun nofun) nofun nofun
  window _ := ⟨Nat.zero_le _, .nil, List.forall_mem_nil _, List.forall_mem_nil _, nofun, List.forall_mem_nil _,
    List.forall_mem_nil _, List.forall_mem_nil _⟩
  ring _ := ⟨.nil, List.forall_mem_nil _, nofun, fun _ => rfl⟩
  marker _ := ⟨.nil, List.forall_mem_nil _, fun _ => ⟨rfl, rfl, rfl⟩, nofun, nofun⟩
  tracker _ := by
    have idle : ∀ i : Fin 8, State.reset.tracker.runs[i] = none := fun i => by
      simp [State.reset, Tracker.initial]
    have closed : ∀ (i : Fin 8) r, State.reset.tracker.runs[i] ≠ some r := fun i r h => by
      rw [idle] at h
      cases h
    exact ⟨fun i r h => absurd h (closed i r), fun i r h => absurd h (closed i r), fun _ => idle, List.forall_mem_nil _⟩
  port _ := ⟨nofun, nofun, nofun, nofun, nofun, nofun, nofun⟩

end Sys2Proof.Machine
end

section
/-! What every update leaves of a property that is read block by block: the bus, the sensor port, the blocks a retirement may
change, and the mark-conflict counter. A property that survives the operations of each block survives every step. -/

namespace Sys2Proof.Machine

/-! ### Ranges of values, slots, rows and records -/

theorem clampedValue_inRange (x : Int) (flags : Flags) : (clampedValue x flags).inRange := clampDc_bounds x

theorem optInRange_none : optInRange none := nofun

theorem optInRange_some {v : Value} (h : v.inRange) : optInRange (some v) := fun _ e => Option.some.inj e ▸ h

/-- A value looked up in something optional is in range when it is in range wherever it is found. -/
theorem optInRange_bind {α : Type} {o : Option α} {f : α → Option Value} (h : ∀ a, o = some a → optInRange (f a)) :
    optInRange (o.bind f) := by
  cases o with
  | none => exact optInRange_none
  | some a => exact h a rfl

/-- The values of a slot are absent or in range. -/
def Slot.InRange (x : Slot) : Prop := x.sample.inRange ∧ optInRange x.gdev

/-- The values in the slots of a row are absent or in range. -/
def Row.InRange (row : Row) : Prop := ∀ (i : Fin 8) x, row.slots[i] = some x → x.InRange

/-- The values of a record are absent or in range. -/
def GeometryRecord.InRange (g : GeometryRecord) : Prop :=
  optInRange g.gdev ∧ optInRange g.cant ∧ (∀ i : Fin 4, optInRange g.chords[i]) ∧ ∀ j : Fin 2, optInRange g.twists[j]

/-- The local quantities of a latch are clamped, or absent (R57 to R62). -/
theorem State.localQuantities_inRange (s : State) : s.localQuantities.InRange := by
  have clamped := fun x flags => optInRange_some (clampedValue_inRange x flags)
  rw [State.localQuantities]
  split
  · exact ⟨⟨optInRange_none, optInRange_none, optInRange_none, optInRange_none⟩, optInRange_none⟩
  · exact ⟨⟨clamped _ _, clamped _ _, clamped _ _, clamped _ _⟩, clamped _ _⟩

/-- Absent slots hold no value. -/
theorem emptySlots_get (i : Fin 8) : emptySlots[i] = none := by simp [emptySlots]

/-- A row whose slots come from a row in range, but for one that is filled with values in range. -/
theorem Row.InRange.set {row filled : Row} (h : row.InRange) (i : Fin 8) {x : Slot} (hx : x.InRange)
    (slots : filled.slots = row.slots.set i (some x)) : filled.InRange := by
  intro j y held
  simp only [slots, Fin.getElem_fin, Vector.getElem_set] at held
  split at held
  · cases held; exact hx
  · exact h j y held

theorem unlatchedRow_inRange (c : StationConfig) (post skipped : Nat) : (unlatchedRow c post skipped).InRange :=
  fun i _ held => nomatch (emptySlots_get i).symm.trans held

theorem latchedRow_inRange (c : StationConfig) (post skipped : Nat) (speed : Option Nat) {own : Slot} (h : own.InRange) :
    (latchedRow c post skipped speed own).InRange :=
  (unlatchedRow_inRange c post skipped).set c.station h rfl

theorem fillSlot_inRange (c : StationConfig) (sender : Fin 8) {x : Sample} (hx : x.inRange) {row : Row}
    (h : row.InRange) : (fillSlot c sender x row).InRange :=
  h.set sender ⟨hx, optInRange_none⟩ rfl

/-- The sample a row holds for a station is in range. -/
theorem Row.InRange.sample {row : Row} (h : row.InRange) {i : Fin 8} {x : Sample} (held : row.sample i = some x) :
    x.inRange := by
  obtain ⟨slot, present, rfl⟩ := Option.map_eq_some_iff.1 held
  exact (h i slot present).1

theorem chordValue_inRange (own : Fin 8) (row : Row) (c : Chord) : optInRange (chordValue own row c) := by
  rw [chordValue]
  split
  · exact optInRange_some (clampedValue_inRange _ _)
  · exact optInRange_none

theorem twistValue_inRange (own : Fin 8) (ring : List GeometryRecord) (row : Row) (t : Twist) :
    optInRange (twistValue own ring row t) := by
  rw [twistValue]
  split
  · exact optInRange_some (clampedValue_inRange _ _)
  · exact optInRange_none

/-- The record of a row in range: gauge deviation and cant from the own slot, versines and twists clamped (R94 to R102). -/
theorem recordOf_inRange (c : StationConfig) (ring : List GeometryRecord) {row : Row} (h : row.InRange) :
    (recordOf c ring row).InRange := by
  have chord : ∀ i : Nat, optInRange (c.chords[i]?.bind (chordValue c.station row)) := fun i =>
    optInRange_bind fun x _ => chordValue_inRange c.station row x
  have twist : ∀ i : Nat, optInRange (c.twists[i]?.bind (twistValue c.station ring row)) := fun i =>
    optInRange_bind fun x _ => twistValue_inRange c.station ring row x
  refine ⟨optInRange_bind fun x held => (h _ x held).2, optInRange_bind fun x held => ?_, fun i => ?_, fun j => ?_⟩
  · obtain ⟨-, -, -, cant⟩ := h.sample held
    exact cant
  · match i with
    | 0 => exact chord 0
    | 1 => exact chord 1
    | 2 => exact chord 2
    | 3 => exact chord 3
  · match j with
    | 0 => exact twist 0
    | 1 => exact twist 1

/-! ### Properties of one block -/

/-- What a property of the bus must survive: everything that is neither a store nor a counter may change, samples may leave
the queue, the error counter falls or counts up to 32, the event counters count, and a sample in range is queued. -/
structure Bus.Closed (B : Bus → Prop) : Prop where
  initial : B Bus.initial
  frame : ∀ b mode slot duplicate heardIdle sending aborted, B b →
    B { b with mode, slot, duplicate, heardIdle, sending, aborted }
  fewer : ∀ b queue, queue.Sublist b.queue → B b → B { b with queue }
  errors : ∀ b n, n ≤ 32 ∨ n ≤ b.txErrors → B b → B { b with txErrors := n }
  crcError : ∀ b, B b → B { b with crcErrors := addSat16 b.crcErrors 1 }
  duplicate : ∀ b, B b → B { b with duplicateStations := addSat16 b.duplicateStations 1 }
  shed : ∀ b n, B b → B { b with samplesShed := addSat16 b.samplesShed n }
  append : ∀ b (q : QueuedSample), q.sample.inRange → B b → B (b.append q)

/-- What a property of the sensor port must survive: another age or framing state, a restart, and a judged burst. -/
structure Sensor.Closed (S : Sensor → Prop) : Prop where
  empty : ∀ age receiver, S { latest := none, age, receiver, frameErrors := 0 }
  frame : ∀ x age receiver, S x → S { x with age, receiver }
  judge : ∀ x bytes time, S x → S (x.judge bytes time)

/-- The blocks of a retirement with other rows. -/
def Flow.withRows (rows : List Row) (f : Flow) : Flow := { f with window := { f.window with rows } }

/-- What a property of the blocks of a retirement must survive: the restart of all blocks, an entry leaving a store, a row
opened or filled, a row retired, an event counted, a post advance of the marker, other alerts and valves, FORCED closes. -/
structure Flow.Closed (F : Flow → Prop) : Prop where
  empty : ∀ alert, F { window := Window.initial, results := Results.initial, ring := [],
                       tracks := { tracker := Tracker.initial, marker := Marker.initial, alert } }
  fewerRows : ∀ f rows, rows.Sublist f.window.rows → F f → F (f.withRows rows)
  fewerRecords : ∀ f fifo, fifo.Sublist f.results.fifo → F f → F { f with results := { f.results with fifo } }
  noRing : ∀ f, F f → F { f with ring := [] }
  fewerRuns : ∀ f queue, queue.Sublist f.tracks.tracker.queue → F f →
    F { f with tracks := { f.tracks with tracker := { f.tracks.tracker with queue } } }
  noActions : ∀ f, F f → F { f with tracks := { f.tracks with marker := { f.tracks.marker with queue := [] } } }
  latched : ∀ f c post skipped speed (own : Slot), own.InRange → F f →
    F (f.withRows (f.window.rows ++ [latchedRow c post skipped speed own]))
  unlatched : ∀ f c post skipped, F f → F (f.withRows (f.window.rows ++ [unlatchedRow c post skipped]))
  stored : ∀ f c sender post (x : Sample), x.inRange → F f → F (f.withRows (storeIn c sender post x f.window.rows))
  retire : ∀ f e row rest, F (f.withRows (row :: rest)) → F ((retireRow e row f).withRows rest)
  duplicate : ∀ f, F f →
    F { f with window := { f.window with duplicateSamples := addSat16 f.window.duplicateSamples 1 } }
  late : ∀ f (i : Fin 8), F f →
    F { f with window := { f.window with late := f.window.late.set i (addSat16 f.window.late[i] 1) } }
  advance : ∀ f c p, F f → F { f with tracks := { f.tracks with marker := f.tracks.marker.advance c p } }
  alert : ∀ f alert, F f → F { f with tracks := { f.tracks with alert } }
  valves : ∀ f left right, F f → F { f with tracks := { f.tracks with marker := { f.tracks.marker with left, right } } }
  forced : ∀ f e, F f → F { f with tracks := forceRuns e f.tracks }

/-! ### Properties of the state, block by block -/

/-- A property of the state that is read block by block. -/
structure State.Parts (B : Bus → Prop) (S : Sensor → Prop) (F : Flow → Prop) (C : Nat → Prop) (s : State) : Prop where
  bus : B s.bus
  sensor : S s.sensor
  flow : F s.flow
  conflicts : C s.pacer.markConflict

section Parts

variable {B : Bus → Prop} {S : Sensor → Prop} {F : Flow → Prop} {C : Nat → Prop}

/-- Rows that retire keep the property of the blocks. -/
theorem Flow.Closed.retireWhile (closed : Flow.Closed F) (e : TrackEnv) (leaves : Row → Bool) (rows : List Row) (f : Flow)
    (h : F (f.withRows rows)) : F (retireWhile e leaves rows f) := by
  induction rows generalizing f with
  | nil => exact h
  | cons row rest ih =>
    rw [Machine.retireWhile]
    split
    · exact ih _ (closed.retire f e row rest h)
    · exact h

/-- Judging bursts keeps the property of the sensor port. -/
theorem Sensor.Closed.judgeAll (closed : Sensor.Closed S) (bursts : List (List RxByte)) (time : Nat) (x : Sensor) (h : S x) :
    S (x.judgeAll bursts time) := by
  induction bursts generalizing x with
  | nil => exact h
  | cons bytes rest ih => exact ih _ (closed.judge x bytes time h)

theorem Sensor.Closed.gap (closed : Sensor.Closed S) (levels : List Bool) (gapBefore : Bool) (time : Nat) (x : Sensor)
    (h : S x) : S (x.gap levels gapBefore time) := by
  rw [Sensor.gap]
  split
  · exact h
  · split
    · exact h
    · exact closed.judgeAll _ _ _ (closed.frame x x.age .receiving h)
  · exact closed.judgeAll _ _ _ h

/-- A frame that ends without error lowers the error counter (R32). -/
theorem Bus.Closed.frameSent (closed : Bus.Closed B) {b : Bus} (h : B b) : B b.frameSent :=
  closed.frame _ b.mode b.slot b.duplicate b.heardIdle none b.aborted (closed.errors b _ (.inr (Nat.sub_le _ 1)) h)

/-- A counted error raises the error counter up to 32, and there empties the queue (R32, R33). -/
theorem Bus.Closed.countError (closed : Bus.Closed B) {b : Bus} (h : B b) : B b.countError := by
  rw [Bus.countError]
  split
  · exact closed.frame _ .listenOnly none b.duplicate b.heardIdle b.sending b.aborted
      (closed.fewer _ [] (List.nil_sublist _) (closed.errors b 32 (.inl (Nat.le_refl 32)) h))
  next few => exact closed.errors b _ (.inl (Nat.le_of_lt (Nat.not_le.1 few))) h

/-- What a post advance sheds leaves the queue and is counted (R38). -/
theorem Bus.Closed.shedAt (closed : Bus.Closed B) {b : Bus} (w p : Nat) (h : B b) : B (b.shed w p) :=
  closed.fewer _ _ List.filter_sublist (closed.shed b _ h)

namespace State.Parts

variable {s : State} (h : s.Parts B S F C)
include h

/-- The bus changes outside its stores and counters. -/
theorem busFrame (closed : Bus.Closed B) (mode : BusMode) (slot : Option Nat) (duplicate heardIdle : Bool)
    (sending : Option Sending) (aborted : Option AbortedFrame) :
    State.Parts B S F C { s with bus := { s.bus with mode, slot, duplicate, heardIdle, sending, aborted } } :=
  ⟨closed.frame _ _ _ _ _ _ _ h.bus, h.sensor, h.flow, h.conflicts⟩

theorem testRequest (closed : Bus.Closed B) : s.testRequest.Parts B S F C :=
  h.busFrame closed _ _ _ _ _ _

/-- A post advance: marker, bus, window (R22). -/
theorem postAdvance (bus : Bus.Closed B) (flow : Flow.Closed F) (p : Nat) : (s.postAdvance p).Parts B S F C :=
  ⟨bus.shedAt _ _ h.bus, h.sensor,
    flow.retireWhile _ _ _ _ (flow.alert _ _ (flow.advance _ s.cfg p h.flow)), h.conflicts⟩

/-- The window is tested with rows that keep the property. -/
theorem settle (flow : Flow.Closed F) {rows : List Row} (kept : F (s.flow.withRows rows)) :
    (State.settleRows { s with window := { s.window with rows } }).Parts B S F C :=
  ⟨h.bus, h.sensor, flow.retireWhile _ _ _ _ kept, h.conflicts⟩

/-- The latch event: a row in range is opened, and a sample in range is queued (R21). -/
theorem latch (bus : Bus.Closed B) (flow : Flow.Closed F) (n k : Nat) : (s.latch n k).Parts B S F C := by
  have own := s.localQuantities_inRange
  have opened := h.settle flow (flow.latched _ s.cfg n k (s.latchSpeed n) _ own h.flow)
  exact ⟨bus.append _ _ own.1 h.bus, h.sensor, opened.flow, h.conflicts⟩

theorem takeIndex (bus : Bus.Closed B) (n : Nat) : (s.takeIndex n).Parts B S F C :=
  have kept := h.busFrame bus s.bus.mode (withdraw n s.bus.slot) s.bus.duplicate s.bus.heardIdle s.bus.sending s.bus.aborted
  ⟨kept.bus, kept.sensor, kept.flow, kept.conflicts⟩

theorem completeMark (bus : Bus.Closed B) (flow : Flow.Closed F) (k : Nat) : (s.completeMark k).Parts B S F C := by
  have entered : State.Parts B S F C
      (State.enterPost k { s with odo := { s.odo with acc := clampAcc (s.odo.acc - pitch) } }) :=
    ⟨h.bus, h.sensor, h.flow, h.conflicts⟩
  exact ((entered.postAdvance bus flow k).latch bus flow k 0).testRequest bus

theorem frameSent (bus : Bus.Closed B) : State.Parts B S F C { s with bus := s.bus.frameSent } :=
  ⟨bus.frameSent h.bus, h.sensor, h.flow, h.conflicts⟩

theorem markSent (bus : Bus.Closed B) (flow : Flow.Closed F) : s.markSent.Parts B S F C := by
  rw [State.markSent]
  split
  · have sent := h.frameSent bus
    exact (sent.busFrame bus s.bus.mode none s.bus.duplicate s.bus.heardIdle none s.bus.aborted).completeMark bus flow _
  · exact h.frameSent bus
  · exact h

theorem sampleSent (bus : Bus.Closed B) : s.sampleSent.Parts B S F C := by
  rw [State.sampleSent]
  split
  · exact ⟨bus.fewer _ _ (List.drop_sublist 1 _) (bus.frameSent h.bus), h.sensor, h.flow, h.conflicts⟩
  · exact h.frameSent bus
  · exact h

theorem loseArbitration (bus : Bus.Closed B) (bit : Nat) : (s.loseArbitration bit).Parts B S F C := by
  rw [State.loseArbitration]
  split
  · exact h
  · split
    · exact h.busFrame bus _ _ _ _ _ _
    · exact h

theorem abortFrame (bus : Bus.Closed B) (bit : Nat) : (s.abortFrame bit).Parts B S F C := by
  rw [State.abortFrame]
  split
  · exact h
  next x _ =>
    split
    · exact ⟨bus.countError (bus.frame s.bus s.bus.mode s.bus.slot s.bus.duplicate s.bus.heardIdle none
        (some { frame := x.frame, bit }) h.bus), h.sensor, h.flow, h.conflicts⟩
    · exact h

theorem adoptMark (bus : Bus.Closed B) (flow : Flow.Closed F) (n : Nat) : (s.adoptMark n).Parts B S F C :=
  ((h.takeIndex bus n).postAdvance bus flow n).latch bus flow n _

/-- A peer sample in range is stored (R77). -/
theorem storeSample (flow : Flow.Closed F) (sender : Fin 8) (n : Nat) {x : Sample} (hx : x.inRange) :
    (s.storeSample sender n x).Parts B S F C :=
  h.settle flow (flow.stored _ s.cfg sender n x hx h.flow)

/-- The four cases of a delivered sample (R76). -/
theorem takeSample (bus : Bus.Closed B) (flow : Flow.Closed F) (sender : Fin 8) (n : Nat) {x : Sample} (hx : x.inRange) :
    (s.takeSample sender n x).Parts B S F C := by
  rw [State.takeSample]
  split
  · have advanced := (h.takeIndex bus n).postAdvance bus flow n
    exact (advanced.settle flow (flow.unlatched _ s.cfg n (s.skippedCount n) advanced.flow)).storeSample flow sender n hx
  · split
    · split
      · exact h.storeSample flow sender n hx
      · exact ⟨h.bus, h.sensor, flow.duplicate _ h.flow, h.conflicts⟩
    · exact ⟨h.bus, h.sensor, flow.late _ sender h.flow, h.conflicts⟩

/-- DISARM and RESYNC: FORCED closes, no rows, no actions, no samples (R192, R193). -/
theorem leaveRun (bus : Bus.Closed B) (flow : Flow.Closed F) (station : StationState) :
    (s.leaveRun station).Parts B S F C :=
  ⟨bus.frame _ s.bus.mode none s.bus.duplicate s.bus.heardIdle s.bus.detached s.bus.aborted
      (bus.fewer _ [] (List.nil_sublist _) h.bus), h.sensor,
    flow.valves _ .closed .closed
      (flow.noActions _ (flow.fewerRows _ [] (List.nil_sublist _) (flow.forced _ s.trackEnv h.flow))), h.conflicts⟩

/-- The memories that SELF_TEST leaves empty (R182). -/
theorem endSelfTest (sensor : Sensor.Closed S) (flow : Flow.Closed F) (failed : BitVec 5) :
    (s.endSelfTest failed).Parts B S F C :=
  ⟨h.bus, sensor.frame _ s.sensor.age .waiting h.sensor,
    flow.noActions _ (flow.fewerRuns _ [] (List.nil_sublist _) (flow.noRing _
      (flow.fewerRecords _ [] (List.nil_sublist _) (flow.fewerRows _ [] (List.nil_sublist _) h.flow)))), h.conflicts⟩

end State.Parts

/-- A property that survives the operations of each block survives every update of the state. -/
theorem keeps_parts (bus : Bus.Closed B) (sensor : Sensor.Closed S) (flow : Flow.Closed F) (zero : C 0)
    (conflict : ∀ n, C n → C (addSat16 n 1)) : Keeps (State.Parts B S F C) := by
  constructor
  case port => exact fun s port h => ⟨h.bus, h.sensor, h.flow, h.conflicts⟩
  case drawn | pending | bothLines | refuse => intros; rename_i h; exact ⟨h.bus, h.sensor, h.flow, h.conflicts⟩
  case holdReset =>
    exact fun s h => ⟨bus.frame _ s.bus.mode s.bus.slot s.bus.duplicate s.bus.heardIdle none none h.bus, h.sensor,
      flow.valves _ .closed .closed h.flow, h.conflicts⟩
  case powerOn => exact fun a b c s h => ⟨bus.initial, sensor.empty none .off, flow.empty _, zero⟩
  case endSelfTest => exact fun failed s _ h => h.endSelfTest sensor flow failed
  case edge =>
    intro line s h
    have after : State.Parts B S F C { s with odo := s.odoAfterEdge line } := ⟨h.bus, h.sensor, h.flow, h.conflicts⟩
    exact after.testRequest bus
  case burst => exact fun levels gapBefore s h => ⟨h.bus, sensor.gap _ _ _ _ h.sensor, h.flow, h.conflicts⟩
  case elapse =>
    exact fun n s h => ⟨h.bus, sensor.frame _ (ageAfter n s.sensor.age) s.sensor.receiver h.sensor,
      flow.valves _ (s.marker.left.after n) (s.marker.right.after n) h.flow, h.conflicts⟩
  case idleGap => exact fun s h => h.busFrame bus _ _ _ _ _ _
  case lose => exact fun bit s h => h.loseArbitration bus bit
  case abort => exact fun bit s h => h.abortFrame bus bit
  case markSent => exact fun s h => h.markSent bus flow
  case sampleSent => exact fun s h => h.sampleSent bus
  case adoptMark => exact fun n s _ _ _ h => h.adoptMark bus flow n
  case conflict => exact fun s h => ⟨h.bus, h.sensor, h.flow, conflict _ h.conflicts⟩
  case crcError => exact fun s h => ⟨bus.crcError _ h.bus, h.sensor, h.flow, h.conflicts⟩
  case duplicate =>
    exact fun s h => ⟨bus.frame _ s.bus.mode s.bus.slot true s.bus.heardIdle s.bus.sending s.bus.aborted
      (bus.duplicate _ h.bus), h.sensor, h.flow, h.conflicts⟩
  case takeSample => exact fun sender n x s _ _ _ _ _ hx h => h.takeSample bus flow sender n hx
  case accept => exact fun b s _ _ _ h => ⟨h.bus, h.sensor, flow.alert _ _ h.flow, h.conflicts⟩
  case arm =>
    exact fun s _ h => ⟨bus.frame _ .active none false s.bus.heardIdle s.bus.detached s.bus.aborted bus.initial,
      sensor.empty (some 0) s.sensor.receiver, flow.empty _, zero⟩
  case disarm => exact fun s _ h => h.leaveRun bus flow .configured
  case resync =>
    intro s _ h
    have left := h.leaveRun bus flow .joining
    exact ⟨left.bus, left.sensor, flow.noRing _ left.flow, left.conflicts⟩
  case recordOut => exact fun s h => ⟨h.bus, h.sensor, flow.fewerRecords _ _ (List.drop_sublist 1 _) h.flow, h.conflicts⟩
  case runOut => exact fun s h => ⟨h.bus, h.sensor, flow.fewerRuns _ _ (List.drop_sublist 1 _) h.flow, h.conflicts⟩
  case alert => exact fun a s h => ⟨h.bus, h.sensor, flow.alert _ a h.flow, h.conflicts⟩

end Parts

end Sys2Proof.Machine
end

section
/-! The step lemma for the sizes of the stores, the widths of the counters and the ranges of the values: each is read block
by block, and survives the operations of each block (R32, R37, R45, R50, R105, R113 to R116, R121, R146, R157). -/

namespace Sys2Proof.Machine

/-! ### The stores -/

/-- Error counter and sample queue keep within their sizes (R32, R37). -/
def Bus.StoresFit (b : Bus) : Prop := b.txErrors ≤ 32 ∧ b.queue.length ≤ 4

/-- Run Queue and marker queue keep within their sizes (R146, R157). -/
def Tracks.StoresFit (t : Tracks) : Prop := t.tracker.queue.length ≤ 32 ∧ t.marker.queue.length ≤ 16

/-- Result FIFO, tally and History Ring keep within their sizes too (R113, R115, R121). -/
structure Flow.StoresFit (f : Flow) : Prop where
  fifo : f.results.fifo.length ≤ 64
  tally : f.results.tally ≤ 255
  ring : f.ring.length ≤ 512
  tracks : f.tracks.StoresFit

theorem State.storesOk_iff (s : State) :
    s.StoresOk ↔ s.Parts Bus.StoresFit (fun _ => True) Flow.StoresFit (fun _ => True) :=
  ⟨fun h => ⟨⟨h.txErrors, h.samples⟩, trivial, ⟨h.fifo, h.tally, h.ring, h.runs, h.actions⟩, trivial⟩,
    fun ⟨⟨txErrors, samples⟩, _, ⟨fifo, tally, ring, runs, actions⟩, _⟩ =>
      ⟨txErrors, samples, fifo, tally, ring, runs, actions⟩⟩

theorem Bus.StoresFit.closed : Bus.Closed Bus.StoresFit where
  initial := ⟨Nat.zero_le _, Nat.zero_le _⟩
  frame _ _ _ _ _ _ _ h := h
  fewer _ _ fewer h := ⟨h.1, fewer.length_le.trans h.2⟩
  errors _ _ low h := ⟨low.elim id (·.trans h.1), h.2⟩
  crcError _ h := h
  duplicate _ h := h
  shed _ _ h := h
  append b q _ h := by
    rw [Bus.append]
    split
    · exact h
    · split
      · refine ⟨h.1, ?_⟩
        have := h.2
        simp only [List.length_append, List.length_drop, List.length_singleton]
        omega
      next room =>
        refine ⟨h.1, ?_⟩
        simp only [List.length_append, List.length_singleton]
        omega

/-- An action that is inserted makes the marker queue longer by one (R157). -/
theorem insertAction_length (a : MarkAction) (queue : List MarkAction) :
    (insertAction a queue).length = queue.length + 1 := by
  induction queue with
  | nil => rfl
  | cons b rest ih =>
    rw [insertAction]
    split
    · rfl
    · exact congrArg Nat.succ ih

/-- A request finds room for its action, and an offered run room in the Run Queue or a run that makes room (R146, R155). -/
theorem Tracks.StoresFit.closed (e : TrackEnv) : Tracks.Closed e Tracks.StoresFit where
  runs _ _ h := h
  edges _ _ h := h
  request t x target h := by
    refine ⟨(congrArg (·.queue.length) (requestMark_tracker e x target t)).trans_le h.1, ?_⟩
    rcases requestMark_queue e x target t with same | ⟨due, inserted, -, -, -, room, -⟩
    · rw [same]; exact h.2
    · rw [inserted, insertAction_length]; exact room
  spike _ h := h
  keep t i cause r h := by
    refine ⟨?_, h.2⟩
    rw [keepRun]
    obtain ⟨room, same⟩ | ⟨-, k, -, inside, same⟩ | ⟨-, same⟩ :=
      offerRun_frame e.held (runRecord i cause t.tracker.sequence r) { t.tracker with sequence := t.tracker.sequence + 1 }
    · rw [same]
      simp only [List.length_append, List.length_singleton]
      exact room
    · rw [same]
      have := h.1
      have inside : k < t.tracker.queue.length := inside
      simp only [List.length_append, List.length_singleton, List.length_eraseIdx_of_lt inside]
      omega
    · rw [same]; exact h.1

/-- The Result FIFO takes a record while it has room, else counts it, the tally up to 255 (R113 to R116). -/
theorem Results.store_fits (g : GeometryRecord) {r : Results} (fifo : r.fifo.length ≤ 64) (tally : r.tally ≤ 255) :
    (r.store g).fifo.length ≤ 64 ∧ (r.store g).tally ≤ 255 := by
  rw [Results.store]
  split
  next room =>
    refine ⟨?_, Nat.zero_le _⟩
    simp only [List.length_append, List.length_singleton]
    exact room
  · exact ⟨fifo, addUpTo_le tally⟩

/-- The History Ring holds at most 512 records (R121). -/
theorem ringAppend_length (g : GeometryRecord) {ring : List GeometryRecord} (h : ring.length ≤ 512) :
    (ringAppend g ring).length ≤ 512 := by
  rw [ringAppend]
  split
  · simp only [List.length_append, List.length_drop, List.length_singleton]; omega
  · simp only [List.length_append, List.length_singleton]; omega

theorem Flow.StoresFit.closed : Flow.Closed Flow.StoresFit where
  empty _ := ⟨Nat.zero_le _, Nat.zero_le _, Nat.zero_le _, Nat.zero_le _, Nat.zero_le _⟩
  fewerRows _ _ _ h := ⟨h.fifo, h.tally, h.ring, h.tracks⟩
  fewerRecords _ _ fewer h := ⟨fewer.length_le.trans h.fifo, h.tally, h.ring, h.tracks⟩
  noRing _ h := ⟨h.fifo, h.tally, Nat.zero_le _, h.tracks⟩
  fewerRuns _ _ fewer h := ⟨h.fifo, h.tally, h.ring, fewer.length_le.trans h.tracks.1, h.tracks.2⟩
  noActions _ h := ⟨h.fifo, h.tally, h.ring, h.tracks.1, Nat.zero_le _⟩
  latched _ _ _ _ _ _ _ h := ⟨h.fifo, h.tally, h.ring, h.tracks⟩
  unlatched _ _ _ _ h := ⟨h.fifo, h.tally, h.ring, h.tracks⟩
  stored _ _ _ _ _ _ h := ⟨h.fifo, h.tally, h.ring, h.tracks⟩
  retire f e row rest h := by
    obtain ⟨fifo, tally⟩ := Results.store_fits (recordOf e.cfg f.ring row) h.fifo h.tally
    exact ⟨fifo, tally, ringAppend_length _ h.ring, (Tracks.StoresFit.closed e).record _ _ h.tracks⟩
  duplicate _ h := ⟨h.fifo, h.tally, h.ring, h.tracks⟩
  late _ _ h := ⟨h.fifo, h.tally, h.ring, h.tracks⟩
  advance _ _ _ h := ⟨h.fifo, h.tally, h.ring, h.tracks.1, (List.length_filter_le _ _).trans h.tracks.2⟩
  alert _ _ h := ⟨h.fifo, h.tally, h.ring, h.tracks⟩
  valves _ _ _ h := ⟨h.fifo, h.tally, h.ring, h.tracks⟩
  forced _ e h := ⟨h.fifo, h.tally, h.ring, (Tracks.StoresFit.closed e).forced _ h.tracks⟩

/-! ### The counters -/

/-- The event counters of the bus are sixteen bits wide (R45). -/
structure Bus.CountersFit (b : Bus) : Prop where
  crcErrors : b.crcErrors ≤ 65535
  samplesShed : b.samplesShed ≤ 65535
  duplicateStations : b.duplicateStations ≤ 65535

/-- The event counters of tracker and marker are sixteen bits wide (R151, R162). -/
structure Tracks.CountersFit (t : Tracks) : Prop where
  spikes : t.tracker.spikes ≤ 65535
  runsLost : t.tracker.runsLost ≤ 65535
  missed : t.marker.missed ≤ 65535

/-- The event counters of window and results are sixteen bits wide too (R85, R116). -/
structure Flow.CountersFit (f : Flow) : Prop where
  duplicateSamples : f.window.duplicateSamples ≤ 65535
  lost : f.results.lost ≤ 65535
  late : ∀ i : Fin 8, f.window.late[i] ≤ 65535
  missed : ∀ i : Fin 8, f.window.missed[i] ≤ 65535
  tracks : f.tracks.CountersFit

/-- The entries of a vector of eight are those at the eight numbers. -/
theorem forall_mem_toList_iff {p : Nat → Prop} (v : Vector Nat 8) : (∀ n ∈ v.toList, p n) ↔ ∀ i : Fin 8, p v[i] := by
  simp only [Vector.mem_toList_iff, Vector.mem_iff_getElem, Fin.forall_iff]
  exact ⟨fun h i lt => h _ ⟨i, lt, rfl⟩, fun h n ⟨i, lt, e⟩ => e ▸ h i lt⟩

theorem State.countersOk_iff (s : State) :
    s.CountersOk ↔ s.Parts Bus.CountersFit (fun x => x.frameErrors ≤ 65535) Flow.CountersFit (· ≤ 65535) := by
  simp only [State.CountersOk, State.counters, List.forall_mem_append, List.forall_mem_cons, forall_mem_toList_iff]
  constructor
  · rintro ⟨⟨⟨conflict, crc, shed, stations, frames, samples, lost, spikes, runsLost, marks, -⟩, late⟩, missed⟩
    exact ⟨⟨crc, shed, stations⟩, frames, ⟨samples, lost, late, missed, spikes, runsLost, marks⟩, conflict⟩
  · rintro ⟨⟨crc, shed, stations⟩, frames, ⟨samples, lost, late, missed, spikes, runsLost, marks⟩, conflict⟩
    exact ⟨⟨⟨conflict, crc, shed, stations, frames, samples, lost, spikes, runsLost, marks, nofun⟩, late⟩, missed⟩

theorem Bus.CountersFit.closed : Bus.Closed Bus.CountersFit where
  initial := ⟨Nat.zero_le _, Nat.zero_le _, Nat.zero_le _⟩
  frame _ _ _ _ _ _ _ h := ⟨h.crcErrors, h.samplesShed, h.duplicateStations⟩
  fewer _ _ _ h := ⟨h.crcErrors, h.samplesShed, h.duplicateStations⟩
  errors _ _ _ h := ⟨h.crcErrors, h.samplesShed, h.duplicateStations⟩
  crcError _ h := ⟨addSat16_le h.crcErrors, h.samplesShed, h.duplicateStations⟩
  duplicate _ h := ⟨h.crcErrors, h.samplesShed, addSat16_le h.duplicateStations⟩
  shed _ _ h := ⟨h.crcErrors, addSat16_le h.samplesShed, h.duplicateStations⟩
  append b q _ h := by
    rw [Bus.append]
    split
    · exact h
    · split
      · exact ⟨h.crcErrors, addSat16_le h.samplesShed, h.duplicateStations⟩
      · exact ⟨h.crcErrors, h.samplesShed, h.duplicateStations⟩

theorem sensorCounter_closed : Sensor.Closed fun x => x.frameErrors ≤ 65535 where
  empty _ _ := Nat.zero_le _
  frame _ _ _ h := h
  judge x bytes time h := by
    rw [Sensor.judge]
    split
    · exact h
    · exact addSat16_le h

theorem Tracks.CountersFit.closed (e : TrackEnv) : Tracks.Closed e Tracks.CountersFit where
  runs _ _ h := ⟨h.spikes, h.runsLost, h.missed⟩
  edges _ _ h := ⟨h.spikes, h.runsLost, h.missed⟩
  request t x target h := by
    obtain ⟨queue, edges, same⟩ := requestMark_frame e x target t
    rw [same]
    exact ⟨h.spikes, h.runsLost, h.missed⟩
  spike _ h := ⟨addSat16_le h.spikes, h.runsLost, h.missed⟩
  keep t i cause r h := by
    rw [keepRun]
    obtain ⟨-, same⟩ | ⟨-, k, -, -, same⟩ | ⟨-, same⟩ :=
      offerRun_frame e.held (runRecord i cause t.tracker.sequence r) { t.tracker with sequence := t.tracker.sequence + 1 }
    · rw [same]; exact ⟨h.spikes, h.runsLost, h.missed⟩
    · rw [same]; exact ⟨h.spikes, addSat16_le h.runsLost, h.missed⟩
    · rw [same]; exact ⟨h.spikes, addSat16_le h.runsLost, h.missed⟩

/-- results-lost after a record is handed over (R116). -/
theorem Results.store_lost_le (g : GeometryRecord) {r : Results} (h : r.lost ≤ 65535) : (r.store g).lost ≤ 65535 := by
  rw [Results.store]
  split
  · exact h
  · exact addSat16_le h

theorem Flow.CountersFit.closed : Flow.Closed Flow.CountersFit where
  empty _ := by
    have zero : ∀ i : Fin 8, (Vector.replicate 8 0)[i] ≤ 65535 := fun i => by simp
    exact ⟨Nat.zero_le _, Nat.zero_le _, zero, zero, Nat.zero_le _, Nat.zero_le _, Nat.zero_le _⟩
  fewerRows _ _ _ h := ⟨h.duplicateSamples, h.lost, h.late, h.missed, h.tracks⟩
  fewerRecords _ _ _ h := ⟨h.duplicateSamples, h.lost, h.late, h.missed, h.tracks⟩
  noRing _ h := ⟨h.duplicateSamples, h.lost, h.late, h.missed, h.tracks⟩
  fewerRuns _ _ _ h := ⟨h.duplicateSamples, h.lost, h.late, h.missed, h.tracks.spikes, h.tracks.runsLost, h.tracks.missed⟩
  noActions _ h := ⟨h.duplicateSamples, h.lost, h.late, h.missed, h.tracks.spikes, h.tracks.runsLost, h.tracks.missed⟩
  latched _ _ _ _ _ _ _ h := ⟨h.duplicateSamples, h.lost, h.late, h.missed, h.tracks⟩
  unlatched _ _ _ _ h := ⟨h.duplicateSamples, h.lost, h.late, h.missed, h.tracks⟩
  stored _ _ _ _ _ _ h := ⟨h.duplicateSamples, h.lost, h.late, h.missed, h.tracks⟩
  retire f e row rest h := by
    refine ⟨h.duplicateSamples, Results.store_lost_le _ h.lost, h.late, fun i => ?_,
      (Tracks.CountersFit.closed e).record _ _ ⟨h.tracks.spikes, h.tracks.runsLost, h.tracks.missed⟩⟩
    refine (countMissed_get _ _ i).trans_le ?_
    split
    · exact addSat16_le (h.missed i)
    · exact h.missed i
  duplicate _ h := ⟨addSat16_le h.duplicateSamples, h.lost, h.late, h.missed, h.tracks⟩
  late f i h := by
    refine ⟨h.duplicateSamples, h.lost, fun j => ?_, h.missed, h.tracks⟩
    simp only [Fin.getElem_fin, Vector.getElem_set]
    split
    · exact addSat16_le (h.late i)
    · exact h.late j
  advance _ _ _ h :=
    ⟨h.duplicateSamples, h.lost, h.late, h.missed, h.tracks.spikes, h.tracks.runsLost, addSat16_le h.tracks.missed⟩
  alert _ _ h := ⟨h.duplicateSamples, h.lost, h.late, h.missed, h.tracks.spikes, h.tracks.runsLost, h.tracks.missed⟩
  valves _ _ _ h := ⟨h.duplicateSamples, h.lost, h.late, h.missed, h.tracks.spikes, h.tracks.runsLost, h.tracks.missed⟩
  forced _ e h := ⟨h.duplicateSamples, h.lost, h.late, h.missed, (Tracks.CountersFit.closed e).forced _ h.tracks⟩

/-! ### The values -/

/-- The samples that wait to be sent are in range (R105). -/
def Bus.ValuesFit (b : Bus) : Prop := ∀ q ∈ b.queue, q.sample.inRange

/-- The raw values of the latest set are in range (R50). -/
def Sensor.ValuesFit (x : Sensor) : Prop :=
  ∀ set, x.latest = some set → ∀ v ∈ [set.raw.gL, set.raw.gR, set.raw.zL, set.raw.zR, set.raw.rho],
    (-32768 : Int) ≤ v ∧ v ≤ 32767

/-- Rows and records hold values in range (R105). -/
structure Flow.ValuesFit (f : Flow) : Prop where
  rows : ∀ row ∈ f.window.rows, row.InRange
  fifo : ∀ g ∈ f.results.fifo, g.InRange
  ring : ∀ g ∈ f.ring, g.InRange

theorem State.valuesOk_iff (s : State) :
    s.ValuesOk ↔ s.Parts Bus.ValuesFit Sensor.ValuesFit Flow.ValuesFit (fun _ => True) := by
  constructor
  · intro ⟨raw, queue, rows, records⟩
    obtain ⟨fifo, ring⟩ := List.forall_mem_append.1 records
    exact ⟨queue, raw, ⟨rows, fifo, ring⟩, trivial⟩
  · intro ⟨queue, raw, ⟨rows, fifo, ring⟩, _⟩
    exact ⟨raw, queue, rows, List.forall_mem_append.2 ⟨fifo, ring⟩⟩

theorem Bus.ValuesFit.closed : Bus.Closed Bus.ValuesFit where
  initial := List.forall_mem_nil _
  frame _ _ _ _ _ _ _ h := h
  fewer _ _ fewer h q hq := h q (fewer.subset hq)
  errors _ _ _ h := h
  crcError _ h := h
  duplicate _ h := h
  shed _ _ h := h
  append b q hq h := by
    rcases b.append_cases q with ⟨-, same⟩ | ⟨-, n, shed, same⟩ <;> rw [same]
    · exact h
    · exact List.forall_mem_append.2 ⟨fun p hp => h p (List.mem_of_mem_drop hp), List.forall_mem_singleton.2 hq⟩

theorem Sensor.ValuesFit.closed : Sensor.Closed Sensor.ValuesFit where
  empty _ _ := nofun
  frame _ _ _ h := h
  judge x bytes time h := by
    rw [Sensor.judge]
    split
    · intro set new
      cases new
      have raw : ∀ i, -32768 ≤ s16At (bytes.map RxByte.data) i ∧ s16At (bytes.map RxByte.data) i ≤ 32767 :=
        fun i => toInt16_range _
      simp only [List.forall_mem_cons]
      exact ⟨raw 1, raw 3, raw 5, raw 7, raw 9, List.forall_mem_nil _⟩
    · exact h

/-- The record of a row in range joins the FIFO, if it has room, and the ring (R113, R121). -/
theorem Results.store_inRange {g : GeometryRecord} (hg : g.InRange) {r : Results} (h : ∀ x ∈ r.fifo, x.InRange) :
    ∀ x ∈ (r.store g).fifo, x.InRange := by
  rw [Results.store]
  split
  · exact List.forall_mem_append.2 ⟨h, List.forall_mem_singleton.2 hg⟩
  · exact h

theorem ringAppend_inRange {g : GeometryRecord} (hg : g.InRange) {ring : List GeometryRecord}
    (h : ∀ x ∈ ring, x.InRange) : ∀ x ∈ ringAppend g ring, x.InRange := by
  refine List.forall_mem_append.2 ⟨fun x hx => ?_, List.forall_mem_singleton.2 hg⟩
  split at hx
  · exact h x (List.mem_of_mem_drop hx)
  · exact h x hx

/-- A sample in range that is stored leaves rows in range (R77). -/
theorem storeIn_inRange (c : StationConfig) (sender : Fin 8) (post : Nat) {x : Sample} (hx : x.inRange) {rows : List Row}
    (h : ∀ row ∈ rows, row.InRange) : ∀ row ∈ storeIn c sender post x rows, row.InRange := by
  rw [storeIn, List.forall_mem_map]
  intro row held
  split
  · exact fillSlot_inRange c sender hx (h row held)
  · exact h row held

theorem Flow.ValuesFit.closed : Flow.Closed Flow.ValuesFit where
  empty _ := ⟨List.forall_mem_nil _, List.forall_mem_nil _, List.forall_mem_nil _⟩
  fewerRows _ _ fewer h := ⟨fun row held => h.rows row (fewer.subset held), h.fifo, h.ring⟩
  fewerRecords _ _ fewer h := ⟨h.rows, fun g held => h.fifo g (fewer.subset held), h.ring⟩
  noRing _ h := ⟨h.rows, h.fifo, List.forall_mem_nil _⟩
  fewerRuns _ _ _ h := ⟨h.rows, h.fifo, h.ring⟩
  noActions _ h := ⟨h.rows, h.fifo, h.ring⟩
  latched _ c post skipped speed _ own h :=
    ⟨List.forall_mem_append.2 ⟨h.rows, List.forall_mem_singleton.2 (latchedRow_inRange c post skipped speed own)⟩,
      h.fifo, h.ring⟩
  unlatched _ c post skipped h :=
    ⟨List.forall_mem_append.2 ⟨h.rows, List.forall_mem_singleton.2 (unlatchedRow_inRange c post skipped)⟩,
      h.fifo, h.ring⟩
  stored _ c sender post _ hx h := ⟨storeIn_inRange c sender post hx h.rows, h.fifo, h.ring⟩
  retire f e row rest h := by
    obtain ⟨retired, rows⟩ := List.forall_mem_cons.1 h.rows
    have record := recordOf_inRange e.cfg f.ring retired
    exact ⟨rows, Results.store_inRange record h.fifo, ringAppend_inRange record h.ring⟩
  duplicate _ h := ⟨h.rows, h.fifo, h.ring⟩
  late _ _ h := ⟨h.rows, h.fifo, h.ring⟩
  advance _ _ _ h := ⟨h.rows, h.fifo, h.ring⟩
  alert _ _ h := ⟨h.rows, h.fifo, h.ring⟩
  valves _ _ _ h := ⟨h.rows, h.fifo, h.ring⟩
  forced _ _ h := ⟨h.rows, h.fifo, h.ring⟩

/-! ### The step lemma -/

/-- A property that is always true of the sensor port survives whatever it does. -/
theorem Sensor.Closed.trivial : Sensor.Closed fun _ => True := ⟨fun _ _ => ⟨⟩, fun _ _ _ _ => ⟨⟩, fun _ _ _ _ => ⟨⟩⟩

/-- Settles O53: sizes, widths and ranges are read block by block, and each survives the operations of its blocks. -/
theorem stepKeepsSizesAndRanges : Obligations.StepKeepsSizesAndRanges := by
  have stores := keeps_parts (C := fun _ => True) Bus.StoresFit.closed Sensor.Closed.trivial Flow.StoresFit.closed
    trivial fun _ _ => trivial
  have counters := keeps_parts (C := (· ≤ 65535)) Bus.CountersFit.closed sensorCounter_closed Flow.CountersFit.closed
    (Nat.zero_le _) fun _ => addSat16_le
  have values := keeps_parts (C := fun _ => True) Bus.ValuesFit.closed Sensor.ValuesFit.closed Flow.ValuesFit.closed
    trivial fun _ _ => trivial
  exact ⟨fun s t h next => t.storesOk_iff.2 (stores.step s t (s.storesOk_iff.1 h) next),
    fun s t h next => t.countersOk_iff.2 (counters.step s t (s.countersOk_iff.1 h) next),
    fun s t h next => t.valuesOk_iff.2 (values.step s t (s.valuesOk_iff.1 h) next)⟩

end Sys2Proof.Machine
end

section
/-! The station bus: what an idle gap begins, what a transmit error does (R27, R30 to R33, R35, R47), and the check (R28,
R112). -/

namespace Sys2Proof.Machine

/-! ### The idle gap and the transmit error -/

/-- The frame an idle gap offers, by slot and queue (R33, R35). -/
theorem State.nextFrame_eq (s : State) :
    s.nextFrame =
      if s.bus.mode = .listenOnly then none
      else
        match s.bus.slot, s.bus.queue with
        | some k, _ => some (.mark (ownMark s.cfg.station k))
        | none, q :: _ => some (.sample (ownSample s.cfg.station q))
        | none, [] => none := by
  rw [State.nextFrame]
  cases s.bus.slot with
  | some k => rfl
  | none => cases s.bus.queue <;> rfl

/-- Settles O12: nothing is being sent, so the frame that is offered begins. -/
theorem idleGapBeginsMarkBeforeSample : Obligations.IdleGapBeginsMarkBeforeSample := by
  intro s high released station begun
  have offered : s.nextFrame = begun := s.nextFrame_eq
  refine congrArg _ ((State.powered_high high _).trans ?_)
  rw [State.idleGap, released, offered]
  rfl

/-- The limit of the error counter, from one below it (R32, R33). -/
theorem Bus.countError_eq {b : Bus} (below : b.txErrors < 32) :
    b.countError =
      if b.txErrors = 31 then { b with txErrors := 32, mode := .listenOnly, slot := none, queue := [] }
      else { b with txErrors := b.txErrors + 1 } := by
  have last : 32 ≤ b.txErrors + 1 ↔ b.txErrors = 31 := by omega
  simp only [Bus.countError, last]

/-- An aborted frame keeps its length on the line (R31). -/
theorem AbortedFrame.bits_length {a : AbortedFrame} (h : a.InFrame) :
    a.bits.length = (frameBits a.frame).length := by
  have := h.2
  simp only [AbortedFrame.bits, List.length_append, List.length_take, List.length_replicate]
  omega

/-- Up to the bit in error the line carries the frame's own bits. -/
theorem AbortedFrame.bits_own {a : AbortedFrame} (h : a.InFrame) {i : Nat} (le : i ≤ a.bit) :
    a.bits[i]? = (frameBits a.frame)[i]? := by
  have := h.2
  rw [AbortedFrame.bits, List.getElem?_append_left (by rw [List.length_take]; omega), List.getElem?_take_of_lt (by omega)]

/-- After the bit in error the line is driven to the end of the frame. -/
theorem AbortedFrame.bits_driven {a : AbortedFrame} (h : a.InFrame) {i : Nat} (gt : a.bit < i) (lt : i < a.bits.length) :
    a.bits[i]? = some false := by
  have := h.2
  rw [AbortedFrame.bits_length h] at lt
  rw [AbortedFrame.bits, List.getElem?_append_right (by rw [List.length_take]; omega), List.length_take,
    List.getElem?_replicate, if_pos (by omega)]

/-- A station that drives out a frame it aborted takes in none (R31). -/
theorem exec_frame_of_aborted {s : State} (aborted : s.bus.aborted ≠ none) (m : MarkFrame) (p : SampleFrame) :
    exec (.markFrame m) s = .next s ∧ exec (.sampleFrame p) s = .next s := by
  have deaf := State.receives_eq_false (.inr (.inr aborted))
  have mark : s.receiveMark m = s := by simp [State.receiveMark, deaf]
  have sample : s.receiveSample p = s := by simp [State.receiveSample, deaf]
  refine ⟨congrArg Host.Outcome.next ?_, congrArg Host.Outcome.next ?_⟩
  · rw [State.powered, mark, ite_self]
  · rw [State.powered, sample, ite_self]

/-- Settles O14, by what an abort counts, what it leaves on the line, and that the station is deaf meanwhile. -/
theorem transmitErrorAbortsAndCounts : Obligations.TransmitErrorAbortsAndCounts := by
  intro bit x s high sending below first inside driven aborted t
  have inFrame : aborted.InFrame := ⟨first, inside⟩
  have error : isTransmitError x.frame bit = true := by
    have kept : losesArbitration x.frame bit = false := by
      rw [Bool.eq_false_iff, losesArbitration]
      simp only [ne_eq, Bool.and_eq_true, decide_eq_true_eq, beq_iff_eq]
      rintro ⟨⟨-, key⟩, released⟩
      exact absurd ((driven key).symm.trans released) nofun
    simp [isTransmitError, first, inside, kept]
  have bus : Bus.countError { s.bus with sending := none, aborted := some aborted } = t.bus :=
    Bus.countError_eq (b := { s.bus with sending := none, aborted := some aborted }) below
  have released : t.bus.sending = none := by simp only [t]; split <;> rfl
  have driving : t.bus.aborted = some aborted := by simp only [t]; split <;> rfl
  refine ⟨congrArg _ ((State.powered_high high _).trans ?_), ⟨aborted.bits, ?_, AbortedFrame.bits_length inFrame,
    fun i => AbortedFrame.bits_own inFrame, fun i => AbortedFrame.bits_driven inFrame⟩,
    exec_frame_of_aborted (by simp [driving]), ?_⟩
  · rw [State.abortFrame, sending]
    simp only [error, if_true]
    rw [bus]
  · rw [State.busBits, released, driving]
    exact if_pos high
  · exact ⟨t.idleGap, congrArg _ (State.powered_high (s := t) high _), rfl⟩

/-! ### The check -/

/-- The bits of a field that is made of two. -/
theorem bitsOf_append {v w : Nat} (x : BitVec v) (y : BitVec w) : bitsOf (x ++ y) = bitsOf x ++ bitsOf y := by
  refine List.ext_getElem (by simp [bitsOf]) fun i hi _ => ?_
  simp only [bitsOf, List.length_map, List.length_range] at hi
  simp only [bitsOf, List.getElem_map, List.getElem_range, List.getElem_append, List.length_map, List.length_range,
    BitVec.getMsbD_append]
  split <;> simp_all

/-- The register fed with its own leading bits has shifted them out: no feedback occurs. -/
theorem crc_own_bits (r : Half) (n : Nat) : ((List.range n).map r.getMsbD).foldl crcStep r = r <<< n := by
  induction n with
  | zero => simp
  | succ n ih =>
    have leading : (r <<< n).msb = r.getMsbD n := by simp [BitVec.msb]
    rw [List.range_succ, List.map_append, List.foldl_append, ih]
    simp [crcStep, leading, BitVec.shiftLeft_add]

/-- The two bytes of a sixteen-bit field, high byte first, carry its bits. -/
theorem be16_bits (x : Half) : (be16 x).flatMap bitsOf = bitsOf x := by
  have halves : x.extractLsb' 8 8 ++ x.extractLsb' 0 8 = x := by
    refine BitVec.eq_of_getLsbD_eq fun i hi => ?_
    rw [BitVec.getLsbD_append, BitVec.getLsbD_extractLsb', BitVec.getLsbD_extractLsb']
    split
    next low => simp [low]
    next high =>
      have place : 8 + (i - 8) = i := by omega
      have upper : i - 8 < 8 := by omega
      simp [place, upper]
  calc (be16 x).flatMap bitsOf = bitsOf (x.extractLsb' 8 8) ++ bitsOf (x.extractLsb' 0 8) := by simp [be16]
    _ = bitsOf x := by rw [← bitsOf_append]; exact congrArg bitsOf halves

/-- Settles O29: the check bytes carry the register's own bits, and feeding these shifts all of them out. -/
theorem checkLeavesZeroOverItsOwnBytes : Obligations.CheckLeavesZeroOverItsOwnBytes := by
  refine ⟨by decide +kernel, fun bytes => ?_⟩
  calc crcBytes (withCheck bytes)
      = (bitsOf (crcBytes bytes)).foldl crcStep (crcBytes bytes) := by
        rw [withCheck, crcBytes, crcBits, List.flatMap_append, List.foldl_append, be16_bits]
        rfl
    _ = crcBytes bytes <<< 16 := crc_own_bits _ 16
    _ = 0 := BitVec.shiftLeft_eq_zero (Nat.le_refl 16)

end Sys2Proof.Machine
end

section
/-! Frames on the bus: the number that the bits of a field make, the places of the fields of R28, and what a receiver reads
back (R28, R40). -/

namespace Sys2Proof.Machine

/-! ### Fields of a bit sequence -/

/-- The unsigned number that bits `i` to `i + n - 1` of a sequence make, most significant first. -/
def bitField (b : List Bool) (i n : Nat) : Nat := ((b.drop i).take n).foldl (fun x bit => 2 * x + bit.toNat) 0

@[simp] theorem bitsOf_length {w : Nat} (x : BitVec w) : (bitsOf x).length = w := by simp [bitsOf]

/-- The leading bits of a field, as a number. -/
theorem foldl_leading_bits {w : Nat} (x : BitVec w) {n : Nat} (h : n ≤ w) :
    ((List.range n).map x.getMsbD).foldl (fun x bit => 2 * x + bit.toNat) 0 = x.toNat / 2 ^ (w - n) := by
  induction n with
  | zero => simp [Nat.div_eq_of_lt x.isLt]
  | succ n ih =>
    have bit : (x.getMsbD n).toNat = x.toNat / 2 ^ (w - (n + 1)) % 2 := by
      rw [BitVec.getMsbD_eq_getLsbD, BitVec.getLsbD, Nat.testBit_eq_decide_div_mod_eq,
        show w - 1 - n = w - (n + 1) by omega]
      rcases Nat.mod_two_eq_zero_or_one (x.toNat / 2 ^ (w - (n + 1))) with e | e
      · simp [e]
      · simp [e]
        omega
    have half : x.toNat / 2 ^ (w - n) = x.toNat / 2 ^ (w - (n + 1)) / 2 := by
      rw [Nat.div_div_eq_div_mul, ← Nat.pow_succ, show (w - (n + 1)).succ = w - n by omega]
    rw [List.range_succ, List.map_append, List.foldl_append, ih (by omega)]
    simp only [List.map_cons, List.map_nil, List.foldl_cons, List.foldl_nil, bit, half]
    omega

/-- A field that leads a sequence reads as its number. -/
theorem bitField_here {w : Nat} (x : BitVec w) (rest : List Bool) : bitField (bitsOf x ++ rest) 0 w = x.toNat := by
  have whole := foldl_leading_bits x (Nat.le_refl w)
  rw [Nat.sub_self, pow_zero, Nat.div_one] at whole
  rw [bitField, List.drop_zero, List.take_left' (bitsOf_length x)]
  exact whole

/-- A field that ends a sequence reads as its number. -/
theorem bitField_last {w : Nat} (x : BitVec w) : bitField (bitsOf x) 0 w = x.toNat := by
  rw [← bitField_here x [], List.append_nil]

/-- Behind a field the places count from its end. -/
theorem bitField_behind {w i n : Nat} (x : BitVec w) (rest : List Bool) (h : w ≤ i) :
    bitField (bitsOf x ++ rest) i n = bitField rest (i - w) n := by
  rw [bitField, List.drop_append, List.drop_of_length_le ((bitsOf_length x).trans_le h), List.nil_append, bitsOf_length,
    bitField]

/-- One bit of a field that leads a sequence. -/
theorem bitField_bit {w i : Nat} (x : BitVec w) (rest : List Bool) (h : i < w) :
    bitField (bitsOf x ++ rest) i 1 = (x.getMsbD i).toNat := by
  have inside : i < (bitsOf x ++ rest).length := by rw [List.length_append, bitsOf_length]; omega
  have bit : (bitsOf x ++ rest)[i] = x.getMsbD i := by
    rw [List.getElem_append_left (by rwa [bitsOf_length])]
    simp [bitsOf]
  rw [bitField, List.take_one_drop_eq_of_lt_length inside]
  simp [bit]

/-! ### The places of the fields -/

/-- The fields of a MARK frame as they follow one another (R28). -/
theorem frameBits_mark (f : MarkFrame) :
    frameBits (.mark f) = bitsOf 0#1 ++ (bitsOf 0#1 ++ (bitsOf f.sender ++ (bitsOf f.post ++ (bitsOf f.crc ++
      bitsOf f.ending)))) := by
  simp [frameBits, markCovered, bitsOf]

/-- The fields of a SAMPLE frame as they follow one another (R28). -/
theorem frameBits_sample (f : SampleFrame) :
    frameBits (.sample f) = bitsOf 0#1 ++ (bitsOf 1#1 ++ (bitsOf f.sender ++ (bitsOf f.post ++ (bitsOf f.yA ++
      (bitsOf f.zL ++ (bitsOf f.zR ++ (bitsOf f.cant ++ (bitsOf f.presence ++ (bitsOf f.flags ++ (bitsOf f.crc ++
      bitsOf f.ending)))))))))) := by
  simp [frameBits, sampleCovered, bitsOf]

/-- The bits that the CRC of a MARK frame covers (R28). -/
theorem frameBits_markCovered (f : MarkFrame) : ((frameBits (.mark f)).drop 1).take 36 = markCovered f := by
  rw [frameBits, List.drop_one, List.tail_cons, List.append_assoc]
  exact List.take_left' (by simp [markCovered])

/-- The bits that the CRC of a SAMPLE frame covers (R28). -/
theorem frameBits_sampleCovered (f : SampleFrame) : ((frameBits (.sample f)).drop 1).take 116 = sampleCovered f := by
  rw [frameBits, List.drop_one, List.tail_cons, List.append_assoc]
  exact List.take_left' (by simp [sampleCovered])

/-- A MARK frame by position (R28), and when it is good (R40). -/
theorem mark_by_position (f : MarkFrame) : let b := frameBits (.mark f)
    b.length = 55 ∧ bitField b 0 1 = 0 ∧ bitField b 1 1 = 0 ∧ bitField b 2 3 = f.sender.toNat ∧
      bitField b 5 32 = f.post.toNat ∧ bitField b 37 16 = f.crc.toNat ∧ bitField b 53 2 = f.ending.toNat ∧
      (markGood f = true ↔ bitField b 37 16 = (crcBits ((b.drop 1).take 36)).toNat ∧ bitField b 53 2 = 3) := by
  intro b
  have crc : bitField b 37 16 = f.crc.toNat := by simp [b, frameBits_mark, bitField_behind, bitField_here]
  have ending : bitField b 53 2 = f.ending.toNat := by simp [b, frameBits_mark, bitField_behind, bitField_last]
  have good : markGood f = true ↔ bitField b 37 16 = (crcBits ((b.drop 1).take 36)).toNat ∧ bitField b 53 2 = 3 := by
    rw [markGood_iff, crc, ending, frameBits_markCovered, BitVec.toNat_inj, ← BitVec.toNat_inj (x := f.ending)]
    rfl
  refine ⟨?_, ?_, ?_, ?_, ?_, crc, ending, good⟩ <;> simp [b, frameBits_mark, bitField_behind, bitField_here]

/-- A SAMPLE frame by position (R28), and when it is good (R40). -/
theorem sample_by_position (f : SampleFrame) : let b := frameBits (.sample f)
    b.length = 135 ∧ bitField b 0 1 = 0 ∧ bitField b 1 1 = 1 ∧ bitField b 2 3 = f.sender.toNat ∧
      bitField b 5 32 = f.post.toNat ∧ bitField b 37 16 = f.yA.toNat ∧ bitField b 53 16 = f.zL.toNat ∧
      bitField b 69 16 = f.zR.toNat ∧ bitField b 85 16 = f.cant.toNat ∧ bitField b 101 4 = f.presence.toNat ∧
      bitField b 105 12 = f.flags.toNat ∧ bitField b 117 16 = f.crc.toNat ∧ bitField b 133 2 = f.ending.toNat ∧
      (sampleGood f = true ↔ bitField b 117 16 = (crcBits ((b.drop 1).take 116)).toNat ∧ bitField b 133 2 = 3) := by
  intro b
  have crc : bitField b 117 16 = f.crc.toNat := by simp [b, frameBits_sample, bitField_behind, bitField_here]
  have ending : bitField b 133 2 = f.ending.toNat := by simp [b, frameBits_sample, bitField_behind, bitField_last]
  have good : sampleGood f = true ↔
      bitField b 117 16 = (crcBits ((b.drop 1).take 116)).toNat ∧ bitField b 133 2 = 3 := by
    rw [sampleGood_iff, crc, ending, frameBits_sampleCovered, BitVec.toNat_inj, ← BitVec.toNat_inj (x := f.ending)]
    rfl
  refine ⟨?_, ?_, ?_, ?_, ?_, ?_, ?_, ?_, ?_, ?_, ?_, crc, ending, good⟩ <;>
    simp [b, frameBits_sample, bitField_behind, bitField_here]

/-- The presence bits stand at 101 to 104, in the order of the values (R28). -/
theorem presence_bit (f : SampleFrame) {i : Nat} (h : i < 4) :
    bitField (frameBits (.sample f)) (101 + i) 1 = (f.presence.getMsbD i).toNat := by
  rw [← bitField_bit f.presence (bitsOf f.flags ++ (bitsOf f.crc ++ bitsOf f.ending)) h, frameBits_sample]
  iterate 8 rw [bitField_behind _ _ (by omega)]
  congr 1
  omega

/-- The flag bits stand at 105 to 116, three for each value (R28). -/
theorem flag_bit (f : SampleFrame) {i : Nat} (h : i < 12) :
    bitField (frameBits (.sample f)) (105 + i) 1 = (f.flags.getMsbD i).toNat := by
  rw [← bitField_bit f.flags (bitsOf f.crc ++ bitsOf f.ending) h, frameBits_sample]
  iterate 9 rw [bitField_behind _ _ (by omega)]
  congr 1
  omega

/-- A bit as a number. -/
theorem toNat_beq_one (x : Bool) : (x.toNat == 1) = x := by cases x <;> rfl

/-- A received value is absent, or carries its flags, by the bits of its place (R28). -/
theorem fieldValue_eq (f : SampleFrame) {i : Nat} (h : i < 4) (x : Half) : let b := frameBits (.sample f)
    fieldValue f i x = if bitField b (101 + i) 1 = 0 then none else some
      { dc := x.toInt
        flags := { held := bitField b (105 + 3 * i) 1 == 1, clipped := bitField b (106 + 3 * i) 1 == 1
                   clamped := bitField b (107 + 3 * i) 1 == 1 } } := by
  intro b
  have held : bitField b (105 + 3 * i) 1 = (f.flags.getMsbD (3 * i)).toNat := flag_bit f (by omega)
  have clipped : bitField b (106 + 3 * i) 1 = (f.flags.getMsbD (3 * i + 1)).toNat := by
    rw [← flag_bit f (by omega)]; congr 1; omega
  have clamped : bitField b (107 + 3 * i) 1 = (f.flags.getMsbD (3 * i + 2)).toNat := by
    rw [← flag_bit f (by omega)]; congr 1; omega
  rw [presence_bit f h, held, clipped, clamped, fieldValue]
  simp only [toNat_beq_one]
  cases f.presence.getMsbD i <;> rfl

end Sys2Proof.Machine
end

section
/-! The frames a station forms, and what a receiver makes of them (R28, R40). -/

namespace Sys2Proof.Machine

/-- The four values of a sample in the order of a SAMPLE frame: yA, zL, zR, C (R28). -/
def Sample.values (x : Sample) : List (Option Value) := [x.yA, x.zL, x.zR, x.cant]

theorem Sample.values_cases {x : Sample} {i : Nat} {v : Option Value} (h : x.values[i]? = some v) :
    (i = 0 ∧ v = x.yA) ∨ (i = 1 ∧ v = x.zL) ∨ (i = 2 ∧ v = x.zR) ∨ (i = 3 ∧ v = x.cant) := by
  match i, h with
  | 0, rfl | 1, rfl | 2, rfl | 3, rfl => simp

/-- Each value of a sample in range is absent or in range. -/
theorem Sample.inRange.value {x : Sample} (h : x.inRange) {i : Nat} {v : Option Value} (held : x.values[i]? = some v) :
    optInRange v := by
  obtain ⟨yA, zL, zR, cant⟩ := h
  obtain ⟨-, rfl⟩ | ⟨-, rfl⟩ | ⟨-, rfl⟩ | ⟨-, rfl⟩ := Sample.values_cases held <;> assumption

/-- The bits of a SAMPLE frame that a station forms: start and kind, number and post, the values, the presence bits, the
flags value after value, and the CRC with the end bits (R28). -/
theorem frameBits_ownSample (station : Fin 8) (q : QueuedSample) : ∃ rest : List Bool,
    frameBits (.sample (ownSample station q)) = bitsOf 1#2 ++ (bitsOf (senderBits station) ++
      (bitsOf (BitVec.ofNat 32 q.post) ++ (bitsOf (valueField q.sample.yA) ++ (bitsOf (valueField q.sample.zL) ++
      (bitsOf (valueField q.sample.zR) ++ (bitsOf (valueField q.sample.cant) ++
      (bitsOf (ownSample station q).presence ++ (bitsOf (valueFlags q.sample.yA) ++ (bitsOf (valueFlags q.sample.zL) ++
      (bitsOf (valueFlags q.sample.zR) ++ (bitsOf (valueFlags q.sample.cant) ++ rest))))))))))) := by
  have start : bitsOf 1#2 = bitsOf 0#1 ++ bitsOf 1#1 := by decide
  refine ⟨bitsOf (ownSample station q).crc ++ bitsOf (ownSample station q).ending, ?_⟩
  have flags : bitsOf (ownSample station q).flags = bitsOf (valueFlags q.sample.yA) ++ (bitsOf (valueFlags q.sample.zL) ++
      (bitsOf (valueFlags q.sample.zR) ++ bitsOf (valueFlags q.sample.cant))) := by
    simp only [ownSample, sealSample, bitsOf_append, List.append_assoc]
  rw [frameBits_sample, flags, start]
  simp only [List.append_assoc]
  rfl

/-- The presence bits of an own sample (R28). -/
theorem ownSample_presence (station : Fin 8) (q : QueuedSample) {i : Nat} {v : Option Value}
    (held : q.sample.values[i]? = some v) : (ownSample station q).presence.getMsbD i = v.isSome := by
  refine (BitVec.getMsbD_ofBoolListBE ..).trans ?_
  obtain ⟨rfl, rfl⟩ | ⟨rfl, rfl⟩ | ⟨rfl, rfl⟩ | ⟨rfl, rfl⟩ := Sample.values_cases held <;> rfl

/-- The fields of the value at place `i` of an own sample: presence, value and flags (R28). -/
theorem ownSample_fields (station : Fin 8) (q : QueuedSample) {i : Nat} {v : Option Value}
    (held : q.sample.values[i]? = some v) :
    bitField (frameBits (.sample (ownSample station q))) (101 + i) 1 = v.isSome.toNat ∧
      bitField (frameBits (.sample (ownSample station q))) (37 + 16 * i) 16 = (valueField v).toNat ∧
      bitField (frameBits (.sample (ownSample station q))) (105 + 3 * i) 3 = (valueFlags v).toNat ∧
      bitField (frameBits (.sample (ownSample station q))) (105 + 3 * i) 1 = ((valueFlags v).getMsbD 0).toNat ∧
      bitField (frameBits (.sample (ownSample station q))) (106 + 3 * i) 1 = ((valueFlags v).getMsbD 1).toNat ∧
      bitField (frameBits (.sample (ownSample station q))) (107 + 3 * i) 1 = ((valueFlags v).getMsbD 2).toNat := by
  have short : i < 4 := (List.getElem?_eq_some_iff.1 held).1
  refine ⟨(presence_bit _ short).trans (congrArg Bool.toNat (ownSample_presence station q held)), ?_⟩
  obtain ⟨rest, bits⟩ := frameBits_ownSample station q
  rw [bits]
  obtain ⟨rfl, rfl⟩ | ⟨rfl, rfl⟩ | ⟨rfl, rfl⟩ | ⟨rfl, rfl⟩ := Sample.values_cases held <;>
    simp [bitField_behind, bitField_here, bitField_bit]

/-- The flag bits of a present value: HELD, CLIPPED, CLAMPED (R28). -/
theorem valueFlags_some (x : Value) : (valueFlags (some x)).getMsbD 0 = x.flags.held ∧
    (valueFlags (some x)).getMsbD 1 = x.flags.clipped ∧ (valueFlags (some x)).getMsbD 2 = x.flags.clamped :=
  ⟨BitVec.getMsbD_ofBoolListBE .., BitVec.getMsbD_ofBoolListBE .., BitVec.getMsbD_ofBoolListBE ..⟩

/-- A value in range is read back from its field as it was put in. -/
theorem valueField_toInt {x : Value} (h : x.inRange) : (valueField (some x)).toInt = x.dc := by
  obtain ⟨low, high⟩ := h
  rw [valueField, BitVec.toInt_ofInt_eq_self (by decide) low (by simpa using Int.lt_add_one_of_le high)]

/-- A receiver reads each value of an own sample as it was put in (R28). -/
theorem fieldValue_ownSample (station : Fin 8) (q : QueuedSample) {i : Nat} {v : Option Value}
    (held : q.sample.values[i]? = some v) (range : optInRange v) :
    fieldValue (ownSample station q) i (valueField v) = v := by
  have short : i < 4 := (List.getElem?_eq_some_iff.1 held).1
  obtain ⟨presence, -, -, flag0, flag1, flag2⟩ := ownSample_fields station q held
  rw [fieldValue_eq _ short, presence, flag0, flag1, flag2]
  cases v with
  | none => rfl
  | some x =>
    obtain ⟨isHeld, isClipped, isClamped⟩ := valueFlags_some x
    rw [isHeld, isClipped, isClamped, valueField_toInt (range x rfl)]
    simp only [toNat_beq_one]
    rfl

/-- The sample read back from an own sample is the one put in. -/
theorem frameSample_ownSample (station : Fin 8) (q : QueuedSample) (range : q.sample.inRange) :
    frameSample (ownSample station q) = q.sample := by
  have read : ∀ i v, q.sample.values[i]? = some v → fieldValue (ownSample station q) i (valueField v) = v :=
    fun i v held => fieldValue_ownSample station q held (range.value held)
  calc frameSample (ownSample station q)
      = { yA := fieldValue (ownSample station q) 0 (valueField q.sample.yA)
          zL := fieldValue (ownSample station q) 1 (valueField q.sample.zL)
          zR := fieldValue (ownSample station q) 2 (valueField q.sample.zR)
          cant := fieldValue (ownSample station q) 3 (valueField q.sample.cant) } := rfl
    _ = q.sample := by rw [read 0 _ rfl, read 1 _ rfl, read 2 _ rfl, read 3 _ rfl]

/-- A sealed frame passes the check (R40). -/
theorem markGood_sealMark (f : MarkFrame) : markGood (sealMark f) = true := (markGood_iff _).2 ⟨rfl, rfl⟩

theorem sampleGood_sealSample (f : SampleFrame) : sampleGood (sealSample f) = true := by
  have covered : sampleCovered (sealSample f) = sampleCovered f := rfl
  rw [sampleGood_iff, covered]
  exact ⟨rfl, rfl⟩

/-- The sender field names the station (R28). -/
theorem senderBits_toNat (station : Fin 8) : (senderBits station).toNat = station.val := by
  rw [senderBits, BitVec.toNat_ofNat, Nat.mod_eq_of_lt station.isLt]

theorem senderOf_senderBits (station : Fin 8) : senderOf (senderBits station) = station :=
  (senderOf_eq_iff _ _).2 (senderBits_toNat station)

/-- A post index of 32 bits is read back as it was put in. -/
theorem postBits_toNat {n : Nat} (h : n < 4294967296) : (BitVec.ofNat 32 n).toNat = n := by
  rw [BitVec.toNat_ofNat, Nat.mod_eq_of_lt h]

/-- The field of a present value holds it in two's complement (R28). -/
theorem valueField_toNat (x : Value) : ((valueField (some x)).toNat : Int) = x.dc % 65536 := by
  rw [valueField, BitVec.toNat_ofInt, Int.toNat_of_nonneg (Int.emod_nonneg _ (by decide))]
  rfl

/-- Settles O16: bits by position, reading values from a frame, and reading back what a station forms. -/
theorem framesReadBackAsFormed : Obligations.FramesReadBackAsFormed := by
  refine ⟨mark_by_position, fun f => ?_, fun station k q mark post range => ⟨?_, ?_, fun i v held => ?_⟩⟩
  · obtain ⟨length, start, kind, sender, post, yA, zL, zR, cant, presence, flags, crc, ending, good⟩ :=
      sample_by_position f
    refine ⟨length, start, kind, sender, post, yA, zL, zR, cant, presence, flags, crc, ending, good, fun i v x held => ?_⟩
    match i, held with
    | 0, rfl => exact fieldValue_eq f (i := 0) (by decide) f.yA
    | 1, rfl => exact fieldValue_eq f (i := 1) (by decide) f.zL
    | 2, rfl => exact fieldValue_eq f (i := 2) (by decide) f.zR
    | 3, rfl => exact fieldValue_eq f (i := 3) (by decide) f.cant
  · obtain ⟨-, -, -, sender, index, -⟩ := mark_by_position (ownMark station k)
    have number := senderBits_toNat station
    have carried := postBits_toNat mark
    exact ⟨markGood_sealMark _, sender.trans number, index.trans carried, senderOf_senderBits station, carried⟩
  · obtain ⟨-, -, -, sender, index, -⟩ := sample_by_position (ownSample station q)
    have number := senderBits_toNat station
    have carried := postBits_toNat post
    exact ⟨sampleGood_sealSample _, sender.trans number, index.trans carried, senderOf_senderBits station, carried,
      frameSample_ownSample station q range⟩
  · obtain ⟨presence, value, flags, flag0, flag1, flag2⟩ := ownSample_fields station q held
    refine ⟨presence, ?_, ?_⟩
    · rintro rfl
      exact ⟨value, flags⟩
    · rintro x rfl
      obtain ⟨isHeld, isClipped, isClamped⟩ := valueFlags_some x
      exact ⟨(congrArg Nat.cast value).trans (valueField_toNat x), flag0.trans (congrArg _ isHeld),
        flag1.trans (congrArg _ isClipped), flag2.trans (congrArg _ isClamped)⟩

end Sys2Proof.Machine
end

section
/-! The control block and the sensor receiver: which moves of the control block a command can make, and what the moves keep
(R52, R66, R182, R187 to R193). -/

namespace Sys2Proof.Machine

/-! ### The moves of the control block -/

/-- CONFIGURED, JOINING or RUNNING: the station states with a configuration in force. -/
def StationState.Configured (x : StationState) : Prop := x = .configured ∨ x = .joining ∨ x = .running

/-- What one command can do to the control block while RESETN stays high: the self-test ends (R182), a block is accepted or
refused (R188, R189), or the station passes between the states with a configuration in force (R13, R15, R191 to R193). -/
inductive Control.Move (c : Control) : Control → Prop where
  | tested (failed : BitVec 5) (test : c.station = .selfTest) :
      Move c { c with selfTest := failed, station := if failed = 0 then .unconfigured else .fault }
  | accepted (b : List Byte) (station : c.station = .unconfigured) (length : b.length = 183)
      (judged : judgeBlock b = .none) :
      Move c { c with station := .configured, block := some b, config := some (effective b), lock := true,
                      refusal := .none }
  | refused (cause : RefusalCause) (station : c.station = .unconfigured) : Move c { c with refusal := cause }
  | passed (x : StationState) (station : c.station.Configured) (next : x.Configured) : Move c { c with station := x }

/-- The control block of the second state is that of the first after some moves. -/
def State.Moved (s t : State) : Prop := Relation.ReflTransGen Control.Move s.control t.control

/-- The Recorder Port has no part in it. -/
theorem moved_portFree (s : State) : PortFree s.Moved := fun _ _ h => h

theorem State.moved_refl (s : State) : s.Moved s := Relation.ReflTransGen.refl

theorem State.armed_configured {s : State} (h : s.armed = true) : s.control.station.Configured := .inr (s.armed_iff.1 h)

/-- A post is entered while JOINING or RUNNING (R13, R15, R19, R20). -/
theorem State.Moved.enter {s t u : State} (h : s.Moved t) (armed : t.armed = true)
    (control : u.control = { t.control with station := .running }) : s.Moved u := by
  rw [State.Moved, control]
  exact h.tail (.passed .running (State.armed_configured armed) (.inr (.inr rfl)))

/-- The own mark that ends is one that was asked for while JOINING or RUNNING (R10, R13). -/
theorem State.Paced.markSent_moved {s : State} (h : s.Paced) : s.Moved s.markSent := by
  rw [State.markSent]
  split
  next f sending =>
    obtain ⟨armed, -, -⟩ := h.own_mark sending
    exact s.moved_refl.enter armed rfl
  · exact s.moved_refl
  · exact s.moved_refl

/-- A received mark is adopted while JOINING or RUNNING only (R15). -/
theorem State.receiveMark_moved (f : MarkFrame) (s : State) : s.Moved (s.receiveMark f) := by
  rw [State.receiveMark, State.takeMark]
  split
  · exact s.moved_refl
  · split
    · split
      · exact s.moved_refl
      next armed =>
        split
        · exact s.moved_refl.enter (by simpa using armed) rfl
        · exact s.moved_refl
    · exact s.moved_refl

/-- A delivered sample is adopted while JOINING or RUNNING only (R20). -/
theorem State.takeSample_moved {s : State} (armed : s.armed = true) (sender : Fin 8) (n : Nat) (x : Sample) :
    s.Moved (s.takeSample sender n x) := by
  rw [State.takeSample]
  split
  · exact s.moved_refl.enter armed rfl
  · split
    · split <;> exact s.moved_refl
    · exact s.moved_refl

theorem State.receiveSample_moved (f : SampleFrame) (s : State) : s.Moved (s.receiveSample f) := by
  rw [State.receiveSample, State.disposeSample]
  split
  · exact s.moved_refl
  · split
    · split
      · exact s.moved_refl
      next armed =>
        split
        · exact s.moved_refl
        · split
          · exact s.moved_refl
          · exact State.takeSample_moved (by simpa using armed) _ _ _
    · exact s.moved_refl

/-! ### The answers that move the control block -/

theorem State.Moved.loadConfig {s t : State} (h : s.Moved t) {b : List Byte} (length : b.length = 183) :
    s.Moved (answerLoadConfig b t).2 := by
  rw [answerLoadConfig]
  split
  next station =>
    split
    next judged => exact h.tail (.accepted b station length judged)
    · exact h.tail (.refused _ station)
  · exact h

theorem State.Moved.arm {s t : State} (h : s.Moved t) : s.Moved (answerArm t).2 := by
  rw [answerArm]
  split
  next station => exact h.tail (.passed .joining (.inl station) (.inr (.inl rfl)))
  · exact h

theorem State.Moved.disarm {s t : State} (h : s.Moved t) : s.Moved (answerDisarm t).2 := by
  rw [answerDisarm]
  split
  next armed => exact h.tail (.passed .configured (State.armed_configured armed) (.inl rfl))
  · exact h

theorem State.Moved.resync {s t : State} (h : s.Moved t) : s.Moved (answerResync t).2 := by
  rw [answerResync]
  split
  next armed => exact h.tail (.passed .joining (State.armed_configured armed) (.inr (.inl rfl)))
  · exact h

/-- Every command but POWER_ON_RESET moves the control block of a station whose RESETN is high, or leaves it. -/
theorem exec_moved {c : Instr} {s t : State} (paced : s.Paced) (high : s.resetn = true) (notReset : c ≠ .powerOnReset)
    (next : exec c s = .next t) : s.Moved t := by
  have free := moved_portFree s
  have here := s.moved_refl
  have on : ∀ f : State → State, s.Moved (f s) → s.Moved (s.powered f) := fun f hf => by
    rwa [State.powered_high high]
  have answered : ∀ code params keeps inFault (body : List Byte → State → Reply × State),
      (∀ p u, p.length = paramCount code → s.Moved u → s.Moved (body p u).2) →
      s.Moved (s.powered (clockIn code params keeps fun p => gated inFault (body p))) :=
    fun code params keeps inFault body answer => on _ (free.gatedClockIn code params keeps inFault body answer s here)
  cases c
  case powerOnReset => exact absurd rfl notReset
  all_goals cases next
  case resetnRelease => rw [if_pos high]; exact here
  case selfTestEnd failed =>
    refine on _ ?_
    split
    next test => exact here.tail (.tested failed test)
    · exact here
  case tachEdge | burstEnd | busIdleGap | valveExpiry | deselect | bothLinesChanged => exact on _ here
  case stale => exact on _ (by split <;> exact here)
  case arbitrationLost bit =>
    obtain ⟨bus, eq⟩ := s.loseArbitration_frame bit
    exact on _ (by rw [eq]; exact here)
  case transmitError bit =>
    obtain ⟨bus, eq⟩ := s.abortFrame_frame bit
    exact on _ (by rw [eq]; exact here)
  case ownSampleSent =>
    obtain ⟨bus, eq⟩ := s.sampleSent_frame
    exact on _ (by rw [eq]; exact here)
  case ownMarkCompletion => exact on _ paced.markSent_moved
  case markFrame f => exact on _ (s.receiveMark_moved f)
  case sampleFrame f => exact on _ (s.receiveSample_moved f)
  case recordShiftedOut | runShiftedOut | historyEntryLookup | historyEntryShiftedOut =>
    refine on _ ?_
    simp only [State.recordOut, State.runOut, State.lookUpEntry, State.entryOut]
    split
    · split <;> exact here
    · exact here
  case identify => exact on _ (free.clockIn _ _ _ _ (fun _ _ _ h => h) s here)
  case unknownCommand code =>
    refine on _ ?_
    split
    · exact here
    · exact free.clockIn _ _ _ _ (fun _ _ _ h => h) s here
  case readStatus | setMask | setModes => exact answered _ _ _ _ _ fun _ _ _ h => h
  case loadConfig => exact answered _ _ _ _ _ fun _ _ length h => h.loadConfig length
  case arm => exact answered _ _ _ _ _ fun _ _ _ h => h.arm
  case disarm => exact answered _ _ _ _ _ fun _ _ _ h => h.disarm
  case resync => exact answered _ _ _ _ _ fun _ _ _ h => h.resync
  case takeResults | takeRuns | acknowledge | clearPending | historyWindow =>
    refine answered _ _ _ _ _ fun p s _ h => ?_
    simp only [answerTakeResults, answerTakeRuns, answerAcknowledge, answerClearPending, answerHistoryWindow]
    split <;> exact h
  case endService | historyRead =>
    refine answered _ _ _ _ _ fun p s _ h => ?_
    simp only [answerEndService, answerHistoryRead]
    split
    · exact h
    · split <;> exact h

/-! ### What the moves keep -/

/-- What `State.ControlOk` asks of the control block alone (R182, R187, R189, R190). -/
structure Control.Ok (c : Control) : Prop where
  lock : c.lock = true ↔ c.station.Configured
  block : c.lock = c.block.isSome
  config : c.config = c.block.map effective
  judged : ∀ b, c.block = some b → b.length = 183 ∧ judgeBlock b = .none
  fault : c.station = .fault ↔ c.selfTest ≠ 0
  refusal : c.lock = true → c.refusal = .none

theorem State.controlOk_iff (s : State) :
    s.ControlOk ↔ s.control.Ok ∧ (s.sensor.receiver = .off ↔ s.control.station = .selfTest) :=
  ⟨fun ⟨lock, block, config, judged, fault, refusal, receiver⟩ => ⟨⟨lock, block, config, judged, fault, refusal⟩, receiver⟩,
    fun ⟨⟨lock, block, config, judged, fault, refusal⟩, receiver⟩ => ⟨lock, block, config, judged, fault, refusal, receiver⟩⟩

theorem Control.initial_ok : Control.initial.Ok :=
  ⟨iff_of_false nofun (by simp [StationState.Configured, Control.initial]), rfl, rfl, nofun, by decide, nofun⟩

/-- Without a configuration in force the lock is clear and there is no block. -/
theorem Control.Ok.unlocked {c : Control} (h : c.Ok) (station : ¬ c.station.Configured) : c.lock = false :=
  Bool.eq_false_iff.2 fun lock => station (h.lock.1 lock)

theorem Control.Ok.move {c d : Control} (h : c.Ok) (move : c.Move d) : d.Ok := by
  cases move with
  | tested failed test =>
    have unlocked : c.lock = false := h.unlocked (by simp [StationState.Configured, test])
    refine ⟨iff_of_false (by simp [unlocked]) ?_, h.block, h.config, h.judged, ?_, h.refusal⟩
    · simp only [StationState.Configured]; split <;> simp
    · by_cases passed : failed = 0 <;> simp [passed]
  | accepted b station length judged =>
    have sound : c.selfTest = 0 := not_not.1 fun failed => nomatch station.symm.trans (h.fault.2 failed)
    exact ⟨iff_of_true rfl (.inl rfl), rfl, rfl, fun _ held => Option.some.inj held ▸ ⟨length, judged⟩,
      iff_of_false nofun fun failed => failed sound, fun _ => rfl⟩
  | refused cause station =>
    have unlocked : c.lock = false := h.unlocked (by simp [StationState.Configured, station])
    exact ⟨h.lock, h.block, h.config, h.judged, h.fault, fun lock => absurd (unlocked.symm.trans lock) nofun⟩
  | passed x station next =>
    have lock : c.lock = true := h.lock.2 station
    have sound : ¬ c.selfTest ≠ 0 := fun failed => by simp [StationState.Configured, h.fault.2 failed] at station
    refine ⟨iff_of_true lock next, h.block, h.config, h.judged, iff_of_false ?_ sound, h.refusal⟩
    rcases next with rfl | rfl | rfl <;> nofun

/-- Lock, block and configuration are in force in the second block as they are in the first (R187, R190). -/
def Control.KeptIn (c d : Control) : Prop := d.lock = true ∧ d.block = c.block ∧ d.config = c.config

/-- A locked block stays: only UNCONFIGURED takes another, and there the lock is clear. -/
theorem Control.Ok.move_locked {c d : Control} (h : c.Ok) (lock : c.lock = true) (move : c.Move d) : c.KeptIn d := by
  have station : c.station ≠ .unconfigured := fun e => by
    simpa [StationState.Configured, e] using h.lock.1 lock
  cases move with
  | tested | passed => exact ⟨lock, rfl, rfl⟩
  | accepted _ unconfigured | refused _ unconfigured => exact absurd unconfigured station

theorem Control.Ok.moves {c d : Control} (h : c.Ok) (moves : Relation.ReflTransGen Control.Move c d) :
    d.Ok ∧ (c.lock = true → c.KeptIn d) := by
  induction moves with
  | refl => exact ⟨h, fun lock => ⟨lock, rfl, rfl⟩⟩
  | tail _ move ih =>
    obtain ⟨ok, kept⟩ := ih
    refine ⟨ok.move move, fun lock => ?_⟩
    obtain ⟨still, block, config⟩ := kept lock
    obtain ⟨locked, block', config'⟩ := ok.move_locked still move
    exact ⟨locked, block'.trans block, config'.trans config⟩

/-! ### The step lemma -/

/-- While RESETN is low every command but those of the reset line leaves the station as it is (R181). -/
theorem exec_low {c : Instr} {s t : State} (low : s.resetn = false) (next : exec c s = .next t) (high : t.resetn = true) :
    ∃ a b d, t = s.powerOn a b d := by
  have idle : ∀ f, (s.powered f).resetn ≠ true := fun f => by simp [State.powered_low low, low]
  cases c with
  | powerOnReset => cases next; exact nomatch high
  | resetnRelease levels selected => cases next; exact ⟨_, _, _, if_neg (by simp [low])⟩
  | _ => cases next; exact absurd high (idle _)

/-- What a step with RESETN high after it does to the control block: a release sets it and the sensor port to their power-on
state, any other step moves it or leaves it. -/
theorem step_control {s t : State} (inv : s.Inv) (next : step s = .next t) (high : t.resetn = true) :
    (s.resetn = false ∧ t.control = Control.initial ∧ t.sensor = Sensor.initial) ∨ (s.resetn = true ∧ s.Moved t) := by
  rw [step] at next
  split at next
  · cases next
    exact .inr ⟨high, s.moved_refl⟩
  next c rest _ =>
    cases low : s.resetn with
    | false =>
      obtain ⟨a, b, d, rfl⟩ := exec_low (s := { s with pending := rest }) low next high
      exact .inl ⟨rfl, rfl, rfl⟩
    | true =>
      have paced : State.Paced { s with pending := rest } := (inv.paced low).frame rfl rfl rfl rfl rfl
      refine .inr ⟨rfl, exec_moved (s := { s with pending := rest }) paced low ?_ next⟩
      rintro rfl
      cases next
      exact nomatch high

/-- Settles O54: the control block is at its power-on state or has moved, which keeps what the invariant says of it and a
locked block; the receiver is off exactly in SELF_TEST by the step lemma of `State.TestsQuietly`. -/
theorem stepKeepsLockAndConfiguration : Obligations.StepKeepsLockAndConfiguration := by
  intro s t inv next high
  rcases step_control inv next high with ⟨low, control, sensor⟩ | ⟨powered, moved⟩
  · refine ⟨t.controlOk_iff.2 ⟨control ▸ Control.initial_ok, ?_⟩, fun powered => absurd (low.symm.trans powered) nofun⟩
    rw [sensor, control]
    exact iff_of_true rfl rfl
  · have quiet := step_testsQuietly s t (inv.testsQuietly powered) next
    obtain ⟨ok, -⟩ := s.controlOk_iff.1 (inv.control powered)
    obtain ⟨kept, locked⟩ := ok.moves moved
    exact ⟨t.controlOk_iff.2 ⟨kept, quiet.receiver⟩, fun _ => locked⟩

end Sys2Proof.Machine
end

section
/-! The passing of time and the local quantities: ages and valves after a stretch of time (R54, R55, R160, R161), rounding
(spec/00_scope.md), and the quantities of a latch (R56 to R62). -/

namespace Sys2Proof.Machine

/-! ### Time that passes -/

/-- A valve after `n` µs and one more (R160). -/
theorem Valve.after_succ (n : Nat) (v : Valve) : v.after (n + 1) = (v.after n).after 1 := by
  cases v with
  | closed => rfl
  | opened r =>
    by_cases done : r ≤ n
    · simp only [Valve.after, if_pos done, if_pos (Nat.le_succ_of_le done)]
    · simp only [Valve.after, if_neg done, Nat.sub_add_eq]
      by_cases last : r ≤ n + 1
      · rw [if_pos last, if_pos (by omega)]
      · rw [if_neg last, if_neg (by omega)]

/-- A valve that is not at the end of its pulse stays as it is while no time passes (R160). -/
theorem Valve.after_zero {v : Valve} (running : v ≠ .opened 0) : v.after 0 = v := by
  cases v with
  | closed => rfl
  | opened r => exact if_neg fun done => running (congrArg _ (Nat.le_zero.1 done))

/-- After its remaining time a valve is CLOSED (R160). -/
theorem Valve.after_remaining (v : Valve) : v.after v.remaining = .closed := by
  cases v with
  | closed => rfl
  | opened r => exact if_pos (Nat.le_refl r)

theorem State.elapse_valve (n : Nat) (x : Nozzle) (s : State) :
    (s.elapse n).marker.valve x = (s.marker.valve x).after n := by cases x <;> rfl

theorem ageAfter_succ (n : Nat) (age : Option Nat) : ageAfter (n + 1) age = ageAfter 1 (ageAfter n age) := by
  cases age with
  | none => rfl
  | some a => exact congrArg some (addUpTo_addUpTo maxAge a n 1).symm

theorem ageAfter_zero (age : Option Nat) : ageAfter 0 age = age := by
  cases age with
  | none => rfl
  | some a => exact congrArg some (addUpTo_zero maxAge a)

theorem LastLatch.after_succ (n : Nat) (l : LastLatch) : l.after (n + 1) = (l.after n).after 1 := by
  simp only [LastLatch.after, addUpTo_addUpTo]

theorem LastLatch.after_zero (l : LastLatch) : l.after 0 = l := by simp only [LastLatch.after, addUpTo_zero]

/-- Time that passes is a sequence of ticks (assumption log 1 and 2). -/
theorem State.elapse_succ (n : Nat) (s : State) : s.elapse (n + 1) = (s.elapse n).tick := by
  simp only [State.tick, State.elapse, ageAfter_succ n, LastLatch.after_succ n, Valve.after_succ n, Option.map_map,
    Function.comp_def, Nat.add_assoc]

/-- While no time passes a station stays as it is, unless a valve is at the end of its pulse. -/
theorem State.elapse_zero {s : State} (left : s.marker.left ≠ .opened 0) (right : s.marker.right ≠ .opened 0) :
    s.elapse 0 = s := by
  simp only [State.elapse, ageAfter_zero, LastLatch.after_zero, Option.map_id', Valve.after_zero left,
    Valve.after_zero right, Nat.add_zero]

/-! ### The stale limit -/

/-- An age below the stop passes `n` µs in full (R54). -/
theorem State.elapse_age {s : State} {age n : Nat} (held : s.sensor.age = some age) (below : age + n ≤ maxAge) :
    (s.elapse n).sensor.age = some (age + n) := by
  have counted : addUpTo maxAge age n = age + n := by simp only [addUpTo]; omega
  show ageAfter n s.sensor.age = _
  rw [held, ← counted]
  rfl

/-- Bit 4 of the pending set is STALE (R167, R169). -/
theorem State.pendingSet_stale (s : State) : s.pendingSet.getLsbD 4 = s.staleLevel := by
  rw [State.pendingSet, BitVec.getLsbD_append]
  exact (by decide : ∀ a b c d : Bool, (BitVec.ofBoolListLE [a, b, c, d]).getLsbD 0 = a) _ _ _ _

/-- Armed and with an age, STALE is pending exactly above the stale limit (R55). -/
theorem State.staleLevel_eq {s : State} {age : Nat} (armed : s.armed = true) (held : s.sensor.age = some age) :
    s.staleLevel = decide (1000 * s.cfg.staleMs < age) := by
  simp only [State.staleLevel, armed, held, State.staleLimit, Nat.mul_comm, Bool.true_and]

/-- Settles O18: the time up to the limit is added to the age, and the remaining time closes the valve. -/
theorem timedEventsHappenAtTheirMoment : Obligations.TimedEventsHappenAtTheirMoment := by
  refine ⟨fun age s high station held limit within => ?_, fun x r s high opened => ?_,
    fun x s high left right closed => ?_, State.elapse_succ⟩
  · have armed : s.armed = true := s.armed_iff.2 station
    have lasts : s.untilStale = 1000 * s.cfg.staleMs + 1 - age := by
      simp only [State.untilStale, held, State.staleLimit, Nat.mul_comm]
    have aged := State.elapse_age (n := 1000 * s.cfg.staleMs + 1 - age) held (by simp only [maxAge]; omega)
    rw [show age + (1000 * s.cfg.staleMs + 1 - age) = 1000 * s.cfg.staleMs + 1 by omega] at aged
    refine ⟨?_, aged, ?_, ?_⟩
    · rw [← lasts]
      exact congrArg Host.Outcome.next ((State.powered_high high _).trans (if_pos armed))
    · rw [State.pendingSet_stale, State.staleLevel_eq ((s.elapse_armed _).trans armed) aged]
      exact decide_eq_true (Nat.lt_succ_self _)
    · rw [State.pendingSet_stale, State.staleLevel_eq armed held]
      exact decide_eq_false (by omega)
  · have remaining : (s.marker.valve x).remaining = r := by rw [opened]; rfl
    refine ⟨congrArg Host.Outcome.next ((State.powered_high high _).trans (congrArg (State.elapse · s) remaining)), ?_⟩
    rw [State.elapse_valve, ← remaining, Valve.after_remaining]
  · have remaining : (s.marker.valve x).remaining = 0 := by rw [closed]; rfl
    refine congrArg Host.Outcome.next ((State.powered_high high _).trans ?_)
    rw [remaining, State.elapse_zero left right]

/-! ### Rounding -/

/-- Rounding is odd: ties go away from zero on both sides. -/
theorem roundDiv_neg (n : Int) (d : Nat) : roundDiv (-n) d = -roundDiv n d := by
  simp only [roundDiv, Int.natAbs_neg]
  rcases Int.lt_trichotomy n 0 with neg | rfl | pos
  · rw [if_pos (by omega), if_neg (by omega), Int.neg_neg]
  · have zero : (2 * (0 : Int).natAbs + d) / (2 * d) = 0 := by
      rcases Nat.eq_zero_or_pos d with rfl | pos
      · rfl
      · exact Nat.div_eq_of_lt (by omega)
    rw [Int.neg_zero, zero]
    rfl
  · rw [if_neg (by omega), if_pos (by omega)]

/-- The rounded quotient of a number that is not negative: half the divisor off at most, and a tie above (spec/00_scope.md,
Rounding). -/
theorem roundDiv_bounds {n : Int} {d : Nat} (pos : 0 < d) (nonneg : 0 ≤ n) :
    2 * (d * roundDiv n d - n) ≤ d ∧ -(d : Int) < 2 * (d * roundDiv n d - n) := by
  rw [roundDiv, if_pos nonneg]
  have low := Nat.div_mul_le_self (2 * n.natAbs + d) (2 * d)
  have high := Nat.lt_div_mul_add (a := 2 * n.natAbs + d) (b := 2 * d) (by omega)
  generalize (2 * n.natAbs + d) / (2 * d) = q at low high ⊢
  rw [show q * (2 * d) = 2 * (d * q) by ring] at low high
  rw [← Nat.cast_mul]
  omega

/-- Rounding a number that is not negative: no integer is nearer, and of two equally near ones it takes that of greater
magnitude. -/
theorem roundDiv_nearest_of_nonneg {n : Int} {d : Nat} (pos : 0 < d) (nonneg : 0 ≤ n) (z : Int) :
    (d * roundDiv n d - n).natAbs ≤ (d * z - n).natAbs ∧
      ((d * roundDiv n d - n).natAbs = (d * z - n).natAbs → z.natAbs ≤ (roundDiv n d).natAbs) := by
  obtain ⟨above, below⟩ := roundDiv_bounds pos nonneg
  generalize roundDiv n d = q at above below ⊢
  obtain ⟨k, rfl⟩ : ∃ k, z = q + k := ⟨z - q, by ring⟩
  have shift : (d : Int) * (q + k) - n = d * q - n + d * k := by ring
  rw [shift]
  rcases Int.lt_trichotomy k 0 with less | rfl | more
  · have apart : (d : Int) * k ≤ -d := by nlinarith
    refine ⟨by omega, fun tie => ?_⟩
    have positive : 0 < q := pos_of_mul_pos_right (a := (d : Int)) (by omega) (by omega)
    have next : k = -1 := Int.eq_of_mul_eq_mul_left (a := d) (by omega) (by omega)
    omega
  · simp
  · have apart : (d : Int) ≤ d * k := by nlinarith
    exact ⟨by omega, fun tie => by omega⟩

/-- Rounding is to the nearest integer, ties away from zero (spec/00_scope.md, Rounding). -/
theorem roundDiv_nearest (n : Int) {d : Nat} (pos : 0 < d) (z : Int) :
    (d * roundDiv n d - n).natAbs ≤ (d * z - n).natAbs ∧
      ((d * roundDiv n d - n).natAbs = (d * z - n).natAbs → z.natAbs ≤ (roundDiv n d).natAbs) := by
  rcases Int.le_total 0 n with nonneg | nonpos
  · exact roundDiv_nearest_of_nonneg pos nonneg z
  · have mirrored := roundDiv_nearest_of_nonneg pos (Int.neg_nonneg_of_nonpos nonpos) (-z)
    have mirror : ∀ y : Int, (d * -y - -n).natAbs = (d * y - n).natAbs := fun y => by
      rw [show (d : Int) * -y - -n = -(d * y - n) by ring, Int.natAbs_neg]
    rwa [roundDiv_neg, mirror, mirror, Int.natAbs_neg, Int.natAbs_neg] at mirrored

/-! ### The local quantities -/

/-- A set is HELD above the stale limit (R58). -/
theorem State.setIsOld_eq (s : State) : s.setIsOld =
    match s.sensor.age with
    | none => false
    | some age => decide (1000 * s.cfg.staleMs < age) := by
  cases age : s.sensor.age with
  | none => simp only [State.setIsOld, age]
  | some _ => simp only [State.setIsOld, State.staleLimit, age, Nat.mul_comm]

/-- Settles O19: each quantity is a clamped value of rounded ones, with the union of its inputs' flags. -/
theorem localQuantitiesAreDerived : Obligations.LocalQuantitiesAreDerived := by
  refine ⟨fun s => ⟨fun empty => ?_, fun x held => ?_⟩, fun n d pos => roundDiv_nearest n pos⟩
  · simp only [State.localQuantities, empty, noQuantities]
  · have quantities : s.localQuantities = quantitiesOf (calibrateSet s.cfg s.setIsOld x) := by
      rw [State.localQuantities, held]
    intro old
    have same : s.setIsOld = old := s.setIsOld_eq
    clear_value old
    subst same
    simp only [quantities, quantitiesOf, alignmentOffset, gaugeDeviation, cantOf, calibrateSet, calibrate, clampedValue_eq,
      Flags.union, List.any_cons, List.any_nil, Bool.or_false, Bool.false_or, Bool.or_assoc]

end Sys2Proof.Machine
end

section
/-! The sensor receiver: what it makes of the levels of SDATA, how it judges a burst, and what a good burst carries (R49 to
R53). -/

namespace Sys2Proof.Machine

/-! ### Judging -/

/-- The judgement of a burst by the conditions of R50: taken (R53) or counted (R51). -/
theorem Sensor.judge_eq (bytes : List RxByte) (time : Nat) (x : Sensor) :
    x.judge bytes time =
      if bytes.length = 13 ∧ (∀ y ∈ bytes, y.stopHigh = true) ∧ bytes.head?.map RxByte.data = some 166#8 ∧
          (bytes.map fun y => y.data.toNat).sum % 256 = 0 then
        { x with latest := some (frameSet bytes time), age := some 0 }
      else { x with frameErrors := if x.frameErrors < 65535 then x.frameErrors + 1 else x.frameErrors } := by
  simp only [Sensor.judge, goodBurst_iff, addSat16_one]

/-- BURST_END gives the sensor port what the receiver makes of the levels. -/
theorem exec_burstEnd {s : State} (high : s.resetn = true) (levels : List Bool) (gapBefore : Bool) :
    exec (.burstEnd levels gapBefore) s = .next { s with sensor := s.sensor.gap levels gapBefore s.timer } :=
  congrArg Host.Outcome.next (State.powered_high high _)

/-- BURST_END that leaves the sensor port leaves the station. -/
theorem exec_burstEnd_same {s : State} (high : s.resetn = true) {levels : List Bool} {gapBefore : Bool}
    (same : s.sensor.gap levels gapBefore s.timer = s.sensor) : exec (.burstEnd levels gapBefore) s = .next s := by
  rw [exec_burstEnd high, same]

/-- A receiver that is off takes nothing in (R52). -/
theorem Sensor.gap_of_off {x : Sensor} (off : x.receiver = .off) (levels : List Bool) (gapBefore : Bool) (time : Nat) :
    x.gap levels gapBefore time = x := by rw [Sensor.gap, off]

/-- A receiver that groups bytes judges every burst that completes (R49). -/
theorem Sensor.gap_of_receiving {x : Sensor} (receiving : x.receiver = .receiving) (levels : List Bool) (gapBefore : Bool)
    (time : Nat) : x.gap levels gapBefore time = x.judgeAll (sdataBursts levels) time := by rw [Sensor.gap, receiving]

/-- A receiver that waits takes in nothing while no idle gap completes (R52; assumption log 11). -/
theorem Sensor.gap_of_no_gap {x : Sensor} (waiting : x.receiver = .waiting) {levels : List Bool}
    (noGap : afterIdleGap 0 levels = none) (time : Nat) : x.gap levels false time = x := by
  simp [Sensor.gap, waiting, noGap]

/-- A receiver that waits begins to group bytes after the first idle gap (R52; assumption log 11). -/
theorem Sensor.gap_of_first_gap {x : Sensor} (waiting : x.receiver = .waiting) {levels rest : List Bool}
    (first : afterIdleGap 0 levels = some rest) (time : Nat) :
    x.gap levels false time = { x with receiver := .receiving }.gap rest true time := by
  simp [Sensor.gap, waiting, first]

/-- A receiver that waits groups bytes from the first level on when an idle gap lay before it (R52). -/
theorem Sensor.gap_of_gap_before {x : Sensor} (waiting : x.receiver = .waiting) (levels : List Bool) (time : Nat) :
    x.gap levels true time = { x with receiver := .receiving }.gap levels true time := by
  simp [Sensor.gap, waiting]

/-! ### Bytes and bursts on the line -/

/-- Bytes with fewer than 20 bit times of high line between them all join the burst in progress. -/
theorem burstsFrom_bytes (between : List (RxByte × Nat)) (last : RxByte) (rest : List Bool) (gap : Nat)
    (held : List RxByte) (near : ∀ u ∈ between, u.2 < 20 ∧ (u.1.stopHigh = false → 1 ≤ u.2)) :
    burstsFrom true gap held
        (between.flatMap (fun u => false :: (List.range 8).map u.1.data.getLsbD ++ [u.1.stopHigh] ++
          List.replicate u.2 true) ++
          (false :: (List.range 8).map last.data.getLsbD ++ [last.stopHigh]) ++ rest) =
      burstsFrom last.stopHigh 0 (held ++ (between.map Prod.fst ++ [last])) rest := by
  induction between generalizing gap held with
  | nil => exact burstsFrom_byte gap held last rest
  | cons u between ih =>
    obtain ⟨⟨short, released⟩, near⟩ := List.forall_mem_cons.1 near
    rw [List.flatMap_cons, List.append_assoc, List.append_assoc, List.append_assoc, burstsFrom_byte]
    have idle : ∀ levels, burstsFrom u.1.stopHigh 0 (held ++ [u.1]) (List.replicate u.2 true ++ levels) =
        burstsFrom true u.2 (held ++ [u.1]) levels := fun levels => by
      rcases Nat.eq_zero_or_pos u.2 with touching | pos
      · have high : u.1.stopHigh = true := Bool.eq_true_of_not_eq_false fun low => by
          have := released low
          omega
        rw [touching, high]
        rfl
      · rw [burstsFrom_short_gap _ _ 0 _ _ (by omega) pos, Nat.zero_add]
    rw [idle, ← List.append_assoc, ih u.2 (held ++ [u.1]) near]
    simp

/-- Fewer than 20 bit times of high line complete no burst. -/
theorem burstsFrom_high (high : Bool) (n : Nat) (bytes : List RxByte) (short : n < 20) :
    burstsFrom high 0 bytes (List.replicate n true) = [] := by
  rcases Nat.eq_zero_or_pos n with rfl | pos
  · exact burstsFrom_nil high 0 bytes
  · rw [← List.append_nil (List.replicate n true), burstsFrom_short_gap high n 0 bytes [] (by omega) pos, burstsFrom_nil]

/-! ### The set of a good burst -/

/-- Two bytes, the high one first, as a number in two's complement (R50). -/
theorem pair_toInt (high low : Byte) : (BitVec.ofNat 16 (256 * high.toNat + low.toNat)).toInt = (high ++ low).toInt := by
  congr 1
  apply BitVec.eq_of_toNat_eq
  have := high.isLt
  have := low.isLt
  rw [BitVec.toNat_append, BitVec.toNat_ofNat, Nat.mod_eq_of_lt (by omega), ← Nat.shiftLeft_add_eq_or_of_lt low.isLt,
    Nat.shiftLeft_eq, Nat.mul_comm]

/-- Settles O17: off, waiting and receiving by what the receiver does in each state, bursts by the bytes on the line, and
the set by its bytes. -/
theorem burstIsJudgedWhole : Obligations.BurstIsJudgedWhole := by
  refine ⟨fun levels s high => ⟨fun inv test gapBefore => ?_, fun off gapBefore => ?_, fun waiting => ⟨fun noGap => ?_,
    fun before rest split first => ?_, ?_⟩⟩, fun levels gapBefore s high receiving => ?_, ⟨fun between last rest near => ?_,
    fun x n low => ?_⟩, ?_⟩
  · have off : s.sensor.receiver = .off := (inv.control high).receiver.2 test
    exact exec_burstEnd_same high (Sensor.gap_of_off off _ _ _)
  · exact exec_burstEnd_same high (Sensor.gap_of_off off _ _ _)
  · exact exec_burstEnd_same high (Sensor.gap_of_no_gap waiting (afterIdleGap_none 0 levels (by decide) noGap) _)
  · have found := afterIdleGap_first 0 levels before rest (by decide) split first
    rw [exec_burstEnd high, Sensor.gap_of_first_gap waiting found]
    exact (exec_burstEnd (s := { s with sensor := { s.sensor with receiver := .receiving } }) high rest true).symm
  · rw [exec_burstEnd high, Sensor.gap_of_gap_before waiting]
    exact (exec_burstEnd (s := { s with sensor := { s.sensor with receiver := .receiving } }) high levels true).symm
  · have judged : exec (.burstEnd levels gapBefore) s =
        .next { s with sensor := s.sensor.judgeAll (sdataBursts levels) s.timer } := by
      rw [exec_burstEnd high, Sensor.gap_of_receiving receiving]
    simp only [Sensor.judgeAll, Sensor.judge_eq] at judged
    refine ⟨judged, fun bytes one => ?_⟩
    rw [judged, one]
    rfl
  · have burst := fun tail => burstsFrom_bytes between last tail 0 [] near
    refine ⟨?_, fun n short => ?_⟩
    · rw [sdataBursts, List.append_assoc, burst, burstsFrom_idle_gap _ _ _ (by simp)]
      rfl
    · rw [sdataBursts, burst, burstsFrom_high _ _ _ short]
  · have byte := burstsFrom_byte 0 [] x
    constructor
    · rw [sdataBursts, byte, low, ← List.append_nil (List.replicate n false), burstsFrom_held_low, burstsFrom_nil]
    · rw [sdataBursts, List.append_assoc, byte, low, burstsFrom_held_low]
      exact burstsFrom_idle_gap false [x] [] (List.cons_ne_nil _ _)
  · intro h a1 a0 b1 b0 c1 c0 d1 d0 e1 e0 f k time
    simp only [← pair_toInt]
    rfl

end Sys2Proof.Machine
end

section
/-! The Post Window and the History Ring hold one ascending sequence of posts (R69, R80, R110, R121): what a row keeps on its
own, what retirement makes of the sequence, and what opening and filling rows make of it. -/

namespace Sys2Proof.Machine

/-! ### One row -/

/-- What a row keeps on its own: READY exactly when the needed set is present, an own slot exactly when it was latched, no
speed without a latch, and a skipped count of sixteen bits (R68, R71, R73, R74). -/
structure Row.Ok (c : StationConfig) (row : Row) : Prop where
  ready : row.state = .ready ↔ needsMet c row = true
  origin : row.origin = .latched ↔ (row.slots[c.station]).isSome = true
  silentSpeed : row.origin = .noOwnLatch → row.speed = none
  skipped : row.skippedBefore ≤ 65535

/-- A row is READY after its test when its needed set is present, or when it was READY before (R71). -/
theorem judgeRow_ready (c : StationConfig) (row : Row) :
    (judgeRow c row).state = .ready ↔ row.state = .ready ∨ needsMet c row = true := by
  rw [judgeRow_eq]
  by_cases met : needsMet c row = true <;> simp [met]

/-- The test of an OPEN row makes it READY exactly when its needed set is present. -/
theorem judgeRow_opened_ready {c : StationConfig} {row : Row} (opened : row.state = .opened) :
    (judgeRow c row).state = .ready ↔ needsMet c (judgeRow c row) = true := by
  rw [judgeRow_ready]
  exact or_iff_right (by simp [opened])

theorem unlatchedRow_ok (c : StationConfig) (post : Nat) {skipped : Nat} (le : skipped ≤ 65535) :
    (unlatchedRow c post skipped).Ok c where
  ready := judgeRow_opened_ready rfl
  origin := iff_of_false nofun (by simp [unlatchedRow, judgeRow, emptySlots])
  silentSpeed _ := rfl
  skipped := le

theorem latchedRow_ok (c : StationConfig) (post : Nat) {skipped : Nat} (speed : Option Nat) (own : Slot)
    (le : skipped ≤ 65535) : (latchedRow c post skipped speed own).Ok c where
  ready := judgeRow_opened_ready rfl
  origin := iff_of_true rfl (by simp [latchedRow, judgeRow])
  silentSpeed := nofun
  skipped := le

/-- The slots of a row with a sample stored in it. -/
theorem fillSlot_slot (c : StationConfig) (sender : Fin 8) (x : Sample) (row : Row) (i : Fin 8) :
    (fillSlot c sender x row).slots[i] = if i = sender then some { sample := x, gdev := none } else row.slots[i] := by
  simp only [fillSlot, judgeRow, Fin.getElem_fin, Vector.getElem_set, Fin.ext_iff, eq_comm]

/-- A stored sample takes nothing from the needed set that is present. -/
theorem needsMet_fillSlot {c : StationConfig} {row : Row} (met : needsMet c row = true) (sender : Fin 8) (x : Sample) :
    needsMet c (fillSlot c sender x row) = true := by
  rw [needsMet_iff] at met ⊢
  intro i needed
  rw [fillSlot_slot]
  split
  · rfl
  · exact met i needed

/-- A row is READY after a sample is stored in it when it was READY, or its needed set is then present (R71, R77). -/
theorem fillSlot_ready (c : StationConfig) (sender : Fin 8) (x : Sample) (row : Row) :
    (fillSlot c sender x row).state = .ready ↔
      row.state = .ready ∨ needsMet c (fillSlot c sender x row) = true :=
  judgeRow_ready c _

theorem fillSlot_ok {c : StationConfig} {row : Row} (h : row.Ok c) {sender : Fin 8} (peer : sender ≠ c.station)
    (x : Sample) : (fillSlot c sender x row).Ok c where
  ready := by
    rw [fillSlot_ready, h.ready]
    exact or_iff_right_of_imp fun met => needsMet_fillSlot met sender x
  origin := by
    rw [fillSlot_slot, if_neg peer.symm]
    exact h.origin
  silentSpeed := h.silentSpeed
  skipped := h.skipped

/-! ### The posts that ring and window hold -/

/-- The posts of some records, then those of some rows. -/
def postsOf (ring : List GeometryRecord) (rows : List Row) : List Nat :=
  ring.map GeometryRecord.carPost ++ rows.map Row.post

/-- The record of a row that retires joins the ring with the row's post; the oldest record may leave (R93, R121). -/
theorem retireRow_posts (e : TrackEnv) (row : Row) (rest : List Row) (f : Flow) :
    (postsOf (retireRow e row f).ring rest).Sublist (postsOf f.ring (row :: rest)) := by
  let g := recordOf e.cfg f.ring row
  have kept : (ringAppend g f.ring).Sublist (f.ring ++ [g]) := by
    rw [ringAppend]
    split
    · exact (List.drop_sublist 1 f.ring).append (List.Sublist.refl [g])
    · exact List.Sublist.refl _
  have joined : postsOf f.ring (row :: rest) = postsOf (f.ring ++ [g]) rest := by simp [postsOf, g, recordOf]
  rw [joined]
  exact (kept.map _).append_right _

/-- Rows that retire pass their posts from the window to the ring: none is added, and the order stays (R80, R106, R121). -/
theorem retireWhile_posts (e : TrackEnv) (leaves : Row → Bool) (rows : List Row) (f : Flow) :
    (postsOf (retireWhile e leaves rows f).ring (rows.dropWhile leaves)).Sublist (postsOf f.ring rows) := by
  induction rows generalizing f with
  | nil => exact List.Sublist.refl _
  | cons row rest ih =>
    rw [retireWhile]
    by_cases leave : leaves row = true
    · rw [if_pos leave, List.dropWhile_cons_of_pos leave]
      exact (ih (retireRow e row f)).trans (retireRow_posts e row rest f)
    · rw [if_neg leave, List.dropWhile_cons_of_neg leave]

/-- What a record keeps of its row and its station: the track post lies the car offset behind, and nothing was lost before
it (R93, R110). -/
def GeometryRecord.Placed (c : StationConfig) (g : GeometryRecord) : Prop :=
  g.trackPost = (g.carPost : Int) - c.carOffset ∧ g.lostBefore = 0

/-- Retirement adds placed records to the ring. -/
theorem retireWhile_placed (e : TrackEnv) (leaves : Row → Bool) (rows : List Row) (f : Flow)
    (h : ∀ g ∈ f.ring, g.Placed e.cfg) : ∀ g ∈ (retireWhile e leaves rows f).ring, g.Placed e.cfg := by
  refine retireWhile_keeps (P := fun f => ∀ g ∈ f.ring, g.Placed e.cfg) e leaves (fun _ _ h => h) ?_ rows f h
  intro row f h g held
  have held : g ∈ (if 512 ≤ f.ring.length then f.ring.drop 1 else f.ring) ∨ g = recordOf e.cfg f.ring row := by
    simpa only [List.mem_append, List.mem_singleton] using List.mem_append.1 held
  rcases held with old | rfl
  · refine h g ?_
    split at old
    · exact List.mem_of_mem_drop old
    · exact old
  · exact ⟨rfl, rfl⟩

/-! ### The window and the ring of a station -/

/-- The posts that the ring and the window hold, oldest first. -/
def State.heldPosts (s : State) : List Nat := postsOf s.ring s.window.rows

/-- What ring and window keep together, also while the window is still to be tested: the posts of the ring's records and then
the window's rows are post indices in strictly ascending order, up to the current post while the station is armed; there are
rows only while it is armed and records only while it is locked (R69, R80, R87, R110, R121, R124). -/
structure State.Stocked (s : State) : Prop where
  lock : s.control.lock = true ↔ s.control.station.Configured
  ascending : s.heldPosts.Pairwise (· < ·)
  first : ∀ n ∈ s.heldPosts, 1 ≤ n
  reached : s.armed = true → ∀ n ∈ s.heldPosts, n ≤ s.post
  idle : s.armed = false → s.window.rows = []
  rows : ∀ r ∈ s.window.rows, r.Ok s.cfg
  records : ∀ g ∈ s.ring, g.Placed s.cfg
  unlocked : s.control.lock = false → s.ring = []

/-- Every row lies within W posts of the current post (R75). -/
def State.RowsYoung (s : State) : Prop := ∀ r ∈ s.window.rows, s.post < r.post + s.cfg.depth

/-- The window and the ring once the window has been tested: the rows are young, and the oldest is OPEN (R72, R80). -/
structure State.Windowed (s : State) : Prop extends s.Stocked where
  young : s.RowsYoung
  oldest : ∀ r, s.window.rows.head? = some r → r.state = .opened

/-- A change outside window, ring, control block and current post. -/
theorem State.Stocked.frame {s t : State} (h : s.Stocked) (rows : t.window.rows = s.window.rows) (ring : t.ring = s.ring)
    (control : t.control = s.control) (post : t.post = s.post) : t.Stocked := by
  have cfg : t.cfg = s.cfg := by rw [State.cfg, control, State.cfg]
  have armed : t.armed = s.armed := by rw [State.armed, control, State.armed]
  have held : t.heldPosts = s.heldPosts := by rw [State.heldPosts, ring, rows, State.heldPosts]
  constructor
  case lock => rw [control]; exact h.lock
  case ascending => rw [held]; exact h.ascending
  case first => rw [held]; exact h.first
  case reached => rw [armed, held, post]; exact h.reached
  case idle => rw [armed, rows]; exact h.idle
  case rows => rw [rows, cfg]; exact h.rows
  case records => rw [ring, cfg]; exact h.records
  case unlocked => rw [control, ring]; exact h.unlocked

theorem State.Windowed.frame {s t : State} (h : s.Windowed) (rows : t.window.rows = s.window.rows) (ring : t.ring = s.ring)
    (control : t.control = s.control) (post : t.post = s.post) : t.Windowed := by
  have cfg : t.cfg = s.cfg := by rw [State.cfg, control, State.cfg]
  refine ⟨h.toStocked.frame rows ring control post, ?_, rows ▸ h.oldest⟩
  rw [State.RowsYoung, rows, post, cfg]
  exact h.young

/-- With no rows the posts that are held are those of the ring. -/
theorem State.heldPosts_of_no_rows {s : State} (rows : s.window.rows = []) :
    s.heldPosts = s.ring.map GeometryRecord.carPost := by
  simp [State.heldPosts, postsOf, rows]

/-- A station with no rows, whose ring is sound and behind the current post. -/
theorem State.Windowed.of_no_rows {s : State} (lock : s.control.lock = true ↔ s.control.station.Configured)
    (rows : s.window.rows = []) (ascending : s.ring.Pairwise fun x y => x.carPost < y.carPost)
    (records : ∀ g ∈ s.ring, 1 ≤ g.carPost ∧ g.Placed s.cfg)
    (reached : s.armed = true → ∀ g ∈ s.ring, g.carPost ≤ s.post)
    (unlocked : s.control.lock = false → s.ring = []) : s.Windowed := by
  have held := s.heldPosts_of_no_rows rows
  refine ⟨⟨lock, ?_, ?_, fun armed => ?_, fun _ => rows, ?_, fun g hg => (records g hg).2, unlocked⟩, ?_, ?_⟩
  · rw [held]; exact List.pairwise_map.2 ascending
  · rw [held, List.forall_mem_map]; exact fun g hg => (records g hg).1
  · rw [held, List.forall_mem_map]; exact reached armed
  · rw [rows]; exact nofun
  · rw [State.RowsYoung, rows]; exact nofun
  · rw [rows]; exact nofun

/-- A station with no rows and an empty ring. -/
theorem State.Windowed.of_empty {s : State} (lock : s.control.lock = true ↔ s.control.station.Configured)
    (rows : s.window.rows = []) (ring : s.ring = []) : s.Windowed :=
  .of_no_rows lock rows (by simp [ring]) (by simp [ring]) (by simp [ring]) fun _ => ring

/-- The records of the ring, oldest first, have strictly rising car posts (R121). -/
theorem State.Stocked.ring_ascending {s : State} (h : s.Stocked) : s.ring.Pairwise fun x y => x.carPost < y.carPost :=
  List.pairwise_map.1 (List.pairwise_append.1 h.ascending).1

/-- The rows, oldest first, have strictly rising posts (R69). -/
theorem State.Stocked.rows_ascending {s : State} (h : s.Stocked) : s.window.rows.Pairwise fun x y => x.post < y.post :=
  List.pairwise_map.1 (List.pairwise_append.1 h.ascending).2.1

/-- Every record of the ring is older than every row (R80). -/
theorem State.Stocked.ring_behind_rows {s : State} (h : s.Stocked) :
    ∀ g ∈ s.ring, ∀ r ∈ s.window.rows, g.carPost < r.post := fun _ hg _ hr =>
  (List.pairwise_append.1 h.ascending).2.2 _ (List.mem_map_of_mem hg) _ (List.mem_map_of_mem hr)

theorem State.carPost_held {s : State} {g : GeometryRecord} (hg : g ∈ s.ring) : g.carPost ∈ s.heldPosts :=
  List.mem_append_left _ (List.mem_map_of_mem hg)

theorem State.rowPost_held {s : State} {r : Row} (hr : r ∈ s.window.rows) : r.post ∈ s.heldPosts :=
  List.mem_append_right _ (List.mem_map_of_mem hr)

/-! ### Retirement, opening and filling -/

/-- The station with rows retired from the oldest end while `leaves` holds. -/
def State.retiring (leaves : Row → Bool) (s : State) : State :=
  s.withFlow (retireWhile s.trackEnv leaves s.window.rows s.flow)

theorem State.settleRows_eq (s : State) : s.settleRows = s.retiring Row.isReady := rfl

theorem State.expireRows_eq (p : Nat) (s : State) :
    s.expireRows p = s.retiring fun row => row.expired s.cfg.depth p || row.isReady := rfl

theorem State.retiring_rows (leaves : Row → Bool) (s : State) :
    (s.retiring leaves).window.rows = s.window.rows.dropWhile leaves := retireWhile_rows _ _ _ _

/-- Retirement adds no post. -/
theorem State.retiring_posts (leaves : Row → Bool) (s : State) :
    (s.retiring leaves).heldPosts.Sublist s.heldPosts := by
  rw [State.heldPosts, s.retiring_rows leaves]
  exact retireWhile_posts s.trackEnv leaves s.window.rows s.flow

theorem State.Stocked.retiring {s : State} (h : s.Stocked) (armed : s.armed = true) (leaves : Row → Bool) :
    (s.retiring leaves).Stocked := by
  have posts := s.retiring_posts leaves
  have rows : ∀ r ∈ (s.retiring leaves).window.rows, r ∈ s.window.rows := fun r hr =>
    (List.dropWhile_sublist leaves).subset (s.retiring_rows leaves ▸ hr)
  exact {
    lock := h.lock
    ascending := h.ascending.sublist posts
    first := fun n hn => h.first n (posts.subset hn)
    reached := fun armed n hn => h.reached armed n (posts.subset hn)
    idle := fun idle => absurd (armed.symm.trans idle) nofun
    rows := fun r hr => h.rows r (rows r hr)
    records := retireWhile_placed s.trackEnv leaves s.window.rows s.flow h.records
    unlocked := fun unlocked =>
      absurd ((h.lock.2 (State.armed_configured armed)).symm.trans unlocked) nofun }

/-- The oldest row that is left does not meet the condition of leaving. -/
theorem State.retiring_oldest {leaves : Row → Bool} {s : State} {r : Row}
    (head : (s.retiring leaves).window.rows.head? = some r) : leaves r = false := by
  rw [s.retiring_rows leaves] at head
  have stays := List.head?_dropWhile_not leaves s.window.rows
  rw [head] at stays
  simpa using stays

/-- A row that is not READY is OPEN. -/
theorem Row.opened_of_not_ready {row : Row} (h : row.isReady = false) : row.state = .opened := by
  cases state : row.state with
  | opened => rfl
  | ready => simp [Row.isReady, state] at h

/-- The test of the window leaves an OPEN row at its head, and keeps the rest in order (R80). -/
theorem State.Stocked.settleRows {s : State} (h : s.Stocked) (armed : s.armed = true) (young : s.RowsYoung) :
    s.settleRows.Windowed := by
  rw [s.settleRows_eq]
  refine ⟨h.retiring armed _, fun r hr => young r ?_, fun r head => Row.opened_of_not_ready (State.retiring_oldest head)⟩
  exact (List.dropWhile_sublist _).subset (s.retiring_rows _ ▸ hr)

/-- After a post advance to the current post no row is at `p - W` or below, since the oldest is not (R72). -/
theorem State.Stocked.expireRows {s : State} (h : s.Stocked) (armed : s.armed = true) : (s.expireRows s.post).Windowed := by
  rw [s.expireRows_eq]
  have stocked := h.retiring armed fun row => row.expired s.cfg.depth s.post || row.isReady
  have stays : ∀ r, (s.retiring fun row => row.expired s.cfg.depth s.post || row.isReady).window.rows.head? = some r →
      s.post < r.post + s.cfg.depth ∧ r.isReady = false := fun r head => by
    simpa [Row.expired] using State.retiring_oldest head
  refine ⟨stocked, fun r hr => ?_, fun r head => Row.opened_of_not_ready (stays r head).2⟩
  have ascending := stocked.rows_ascending
  obtain ⟨oldest, rest, split⟩ := List.exists_cons_of_ne_nil (List.ne_nil_of_mem hr)
  rw [split] at hr ascending
  have young := (stays oldest (by rw [split]; rfl)).1
  rcases List.mem_cons.1 hr with rfl | behind
  · exact young
  · exact young.trans (Nat.add_lt_add_right (List.rel_of_pairwise_cons ascending behind) _)

/-- A row for the current post is opened behind all that is held, and the window is tested (R73, R74, R80). -/
theorem State.Windowed.openRow {s : State} (h : s.Windowed) (armed : s.armed = true) (depth : 1 ≤ s.cfg.depth)
    (post : 1 ≤ s.post) (behind : ∀ n ∈ s.heldPosts, n < s.post) {row : Row} (ok : row.Ok s.cfg)
    (current : row.post = s.post) : (s.openRow row).Windowed := by
  have held : postsOf s.ring (s.window.rows ++ [row]) = s.heldPosts ++ [s.post] := by
    simp [State.heldPosts, postsOf, current]
  have joined : ∀ {P : Nat → Prop}, (∀ n ∈ s.heldPosts, P n) → P s.post →
      ∀ n ∈ postsOf s.ring (s.window.rows ++ [row]), P n := fun old new n hn => by
    rw [held, List.mem_append, List.mem_singleton] at hn
    rcases hn with hn | rfl
    · exact old n hn
    · exact new
  have opened : State.Stocked { s with window := { s.window with rows := s.window.rows ++ [row] } } := {
    lock := h.lock
    ascending := by
      rw [State.heldPosts, held]
      exact List.pairwise_append.2 ⟨h.ascending, List.pairwise_singleton _ _, fun n hn k hk =>
        (List.mem_singleton.1 hk).symm ▸ behind n hn⟩
    first := joined h.first post
    reached := fun armed => joined (h.reached armed) (Nat.le_refl _)
    idle := fun idle => absurd (armed.symm.trans idle) nofun
    rows := List.forall_mem_append.2 ⟨h.rows, List.forall_mem_singleton.2 ok⟩
    records := h.records
    unlocked := h.unlocked }
  refine opened.settleRows armed (List.forall_mem_append.2 ⟨h.young, List.forall_mem_singleton.2 ?_⟩)
  show s.post < row.post + s.cfg.depth
  omega

/-- Storing a sample leaves the posts of the rows. -/
theorem storeIn_posts (c : StationConfig) (sender : Fin 8) (post : Nat) (x : Sample) (rows : List Row) :
    (storeIn c sender post x rows).map Row.post = rows.map Row.post := by
  rw [storeIn, List.map_map]
  refine List.map_congr_left fun row _ => ?_
  simp only [Function.comp_apply]
  split <;> rfl

/-- A row after a sample was stored is a row from before, or one that was filled. -/
theorem mem_storeIn {c : StationConfig} {sender : Fin 8} {post : Nat} {x : Sample} {rows : List Row} {r : Row}
    (h : r ∈ storeIn c sender post x rows) : ∃ row ∈ rows, r = row ∨ r = fillSlot c sender x row := by
  obtain ⟨row, held, rfl⟩ := List.mem_map.1 h
  refine ⟨row, held, ?_⟩
  split
  · exact .inr rfl
  · exact .inl rfl

/-- A peer's sample is stored, and the window is tested (R77, R80). -/
theorem State.Windowed.storeSample {s : State} (h : s.Windowed) (armed : s.armed = true) {sender : Fin 8}
    (peer : sender ≠ s.cfg.station) (n : Nat) (x : Sample) : (s.storeSample sender n x).Windowed := by
  have held : postsOf s.ring (storeIn s.cfg sender n x s.window.rows) = s.heldPosts := by
    rw [postsOf, storeIn_posts, State.heldPosts, postsOf]
  have stored : State.Stocked { s with window := { s.window with rows := storeIn s.cfg sender n x s.window.rows } } := {
    lock := h.lock
    ascending := by rw [State.heldPosts, held]; exact h.ascending
    first := by rw [State.heldPosts, held]; exact h.first
    reached := by rw [State.heldPosts, held]; exact h.reached
    idle := fun idle => absurd (armed.symm.trans idle) nofun
    rows := fun r hr => by
      obtain ⟨row, held, rfl | rfl⟩ := mem_storeIn hr
      · exact h.rows _ held
      · exact fillSlot_ok (h.rows row held) peer x
    records := h.records
    unlocked := h.unlocked }
  refine stored.settleRows armed fun r hr => ?_
  obtain ⟨row, held, rfl | rfl⟩ := mem_storeIn hr
  · exact h.young _ held
  · exact h.young row held

end Sys2Proof.Machine
end

section
/-! The step lemma for the window and the ring (R69, R71, R75, R80, R110, R121): what reaching a post makes of both, and
what every other update leaves of them. -/

namespace Sys2Proof.Machine

/-! ### A post is reached -/

/-- The station comes to a higher post; what it holds lies behind that post. -/
theorem State.Stocked.enterPost {s : State} {n : Nat} (h : s.Stocked) (armed : s.armed = true) (rise : s.post < n) :
    (s.enterPost n).Stocked ∧ ∀ k ∈ (s.enterPost n).heldPosts, k < n := by
  have behind : ∀ k ∈ s.heldPosts, k < n := fun k hk => (h.reached armed k hk).trans_lt rise
  refine ⟨⟨iff_of_true (h.lock.2 (State.armed_configured armed)) (.inr (.inr rfl)), h.ascending, h.first,
    fun _ k hk => (behind k hk).le, fun idle => absurd idle (by simp), h.rows, h.records, h.unlocked⟩, behind⟩

/-- The post advance that goes with it: the rows at `n - W` and below retire (R22, R72). -/
theorem State.Stocked.advance {s : State} {n : Nat} (h : s.Stocked) (armed : s.armed = true) (rise : s.post < n) :
    ((s.enterPost n).postAdvance n).Windowed ∧ ∀ k ∈ ((s.enterPost n).postAdvance n).heldPosts, k < n := by
  obtain ⟨entered, behind⟩ := h.enterPost armed rise
  let t : State := { (s.enterPost n).advanceMarker n with
    bus := ((s.enterPost n).advanceMarker n).bus.shed s.cfg.depth n }
  have advanced : t.Stocked := entered.frame rfl rfl rfl rfl
  have expired : (s.enterPost n).postAdvance n = t.expireRows n := rfl
  rw [expired]
  refine ⟨advanced.expireRows rfl, fun k hk => behind k ?_⟩
  exact (t.retiring_posts _).subset (t.expireRows_eq n ▸ hk)

/-- The latch event at the current post opens a row (R21, R73). -/
theorem State.Windowed.latch {s : State} {n k : Nat} (h : s.Windowed) (armed : s.armed = true) (depth : 1 ≤ s.cfg.depth)
    (post : s.post = n) (first : 1 ≤ n) (behind : ∀ m ∈ s.heldPosts, m < n) (skipped : k ≤ 65535) :
    (s.latch n k).Windowed := by
  subst post
  have closed : (s.closeInterval s.post).Windowed := h.frame rfl rfl rfl rfl
  have opened := closed.openRow (row := latchedRow s.cfg s.post k (s.latchSpeed s.post) s.localQuantities) armed depth
    first behind (latchedRow_ok s.cfg s.post _ _ skipped) rfl
  exact opened.frame rfl rfl rfl rfl

/-- The skipped count has sixteen bits (R16, R19). -/
theorem State.skippedCount_le (n : Nat) (s : State) : s.skippedCount n ≤ 65535 := by
  rw [State.skippedCount]
  split
  · exact Nat.zero_le _
  · exact Nat.min_le_left _ _

/-- A post taken from a peer, up to the post advance (R15, R20, R22). -/
theorem State.Windowed.takeIndex {s : State} {n : Nat} (h : s.Windowed) (armed : s.armed = true) (rise : s.post < n) :
    ((s.takeIndex n).postAdvance n).Windowed ∧ ∀ k ∈ ((s.takeIndex n).postAdvance n).heldPosts, k < n := by
  let t : State := { s with
    odo := { s.odo with acc := 0, tachFault := s.odo.tachFault || s.axleSilent }
    bus := { s.bus with slot := withdraw n s.bus.slot } }
  have taken : t.Stocked := h.toStocked.frame rfl rfl rfl rfl
  exact taken.advance armed rise

/-- A mark above the current post is adopted: post advance and latch event (R15). -/
theorem State.Windowed.adoptMark {s : State} {n : Nat} (h : s.Windowed) (armed : s.armed = true)
    (depth : 1 ≤ s.cfg.depth) (rise : s.post < n) : (s.adoptMark n).Windowed := by
  obtain ⟨advanced, behind⟩ := h.takeIndex armed rise
  exact advanced.latch rfl depth rfl (Nat.zero_lt_of_lt rise) behind (s.skippedCount_le n)

/-- A post above the current one is adopted from a sample: post advance and a row without a latch (R20, R74). -/
theorem State.Windowed.adoptSilently {s : State} {n : Nat} (h : s.Windowed) (armed : s.armed = true)
    (depth : 1 ≤ s.cfg.depth) (rise : s.post < n) : (s.adoptSilently n).Windowed := by
  obtain ⟨advanced, behind⟩ := h.takeIndex armed rise
  exact advanced.openRow rfl depth (Nat.zero_lt_of_lt rise) behind (unlatchedRow_ok s.cfg n (s.skippedCount_le n)) rfl

/-- The own mark is completed: post advance and latch event (R13). -/
theorem State.Windowed.completeMark {s : State} {k : Nat} (h : s.Windowed) (armed : s.armed = true)
    (depth : 1 ≤ s.cfg.depth) (rise : s.post < k) : (s.completeMark k).Windowed := by
  let t : State := { s with odo := { s.odo with acc := clampAcc (s.odo.acc - pitch) } }
  have taken : t.Stocked := h.toStocked.frame rfl rfl rfl rfl
  obtain ⟨advanced, behind⟩ := taken.advance armed rise
  exact (advanced.latch rfl depth rfl (Nat.zero_lt_of_lt rise) behind (Nat.zero_le _)).frame rfl rfl rfl rfl

theorem State.Windowed.markSent {s : State} (h : s.Windowed) (paced : s.Paced) : s.markSent.Windowed := by
  rw [State.markSent]
  split
  next f sending =>
    obtain ⟨armed, next, -⟩ := paced.own_mark sending
    let t : State := { s with bus := { s.bus.frameSent with slot := none } }
    have sent : t.Windowed := h.frame rfl rfl rfl rfl
    exact sent.completeMark armed (paced.depth (.inr armed)) (next ▸ Nat.lt_succ_self s.post)
  · exact h.frame rfl rfl rfl rfl
  · exact h

/-- The four cases of a delivered sample (R76). -/
theorem State.Windowed.takeSample {s : State} (h : s.Windowed) (armed : s.armed = true) (depth : 1 ≤ s.cfg.depth)
    {sender : Fin 8} (peer : sender ≠ s.cfg.station) (n : Nat) (x : Sample) : (s.takeSample sender n x).Windowed := by
  rw [State.takeSample]
  split
  next rise => exact (h.adoptSilently armed depth rise).storeSample rfl peer n x
  · split
    · split
      · exact h.storeSample armed peer n x
      · exact h.frame rfl rfl rfl rfl
    · exact h.frame rfl rfl rfl rfl

/-- DISARM leaves the ring and no rows (R87, R124, R192). -/
theorem State.Windowed.disarm {s : State} (h : s.Windowed) (armed : s.armed = true) :
    (s.leaveRun .configured).Windowed :=
  .of_no_rows (iff_of_true (h.lock.2 (State.armed_configured armed)) (.inl rfl)) rfl h.ring_ascending
    (fun g hg => ⟨h.first _ (State.carPost_held hg), h.records g hg⟩) nofun h.unlocked

/-! ### From the invariant and back -/

/-- While pacing is inactive the current post reads 0. -/
theorem State.PacingOk.post_eq_zero {s : State} (h : s.PacingOk) (idle : s.armed = false) : s.post = 0 := by
  rw [State.post, h.no_post fun run => by simp [State.armed, run] at idle]
  rfl

theorem State.Inv.windowed {s : State} (h : s.Inv) (high : s.resetn = true) : s.Windowed := by
  have window := h.window high
  have ring := h.ring high
  have idle : s.armed = false → s.window.rows = [] := fun idle =>
    List.eq_nil_iff_forall_not_mem.2 fun r hr => by
      have := window.range r hr
      have := (h.pacing high).post_eq_zero idle
      omega
  exact {
    lock := (h.control high).lock
    ascending := by
      refine List.pairwise_append.2
        ⟨List.pairwise_map.2 ring.ascending, List.pairwise_map.2 window.ascending, fun n hn k hk => ?_⟩
      obtain ⟨g, hg, rfl⟩ := List.mem_map.1 hn
      obtain ⟨r, hr, rfl⟩ := List.mem_map.1 hk
      have armed : s.armed = true := Bool.not_eq_false _ ▸ fun off => by simp [idle off] at hr
      exact (ring.older armed g hg).2 r hr
    first := List.forall_mem_append.2 ⟨List.forall_mem_map.2 fun g hg => (ring.fields g hg).1,
      List.forall_mem_map.2 fun r hr => (window.range r hr).1⟩
    reached := fun armed => List.forall_mem_append.2 ⟨List.forall_mem_map.2 fun g hg => (ring.older armed g hg).1,
      List.forall_mem_map.2 fun r hr => (window.range r hr).2.1⟩
    idle := idle
    rows := fun r hr => ⟨window.ready r hr, window.origin r hr, window.silentSpeed r hr, window.skipped r hr⟩
    records := fun g hg => (ring.fields g hg).2
    unlocked := ring.empty
    young := fun r hr => (window.range r hr).2.2
    oldest := window.oldest }

/-- Rows of strictly rising posts within the last W posts are at most W (R69, R75). -/
theorem rows_length_le {rows : List Row} {p w : Nat} (ascending : rows.Pairwise fun x y => x.post < y.post)
    (reached : ∀ r ∈ rows, r.post ≤ p) (young : ∀ r ∈ rows, p < r.post + w) : rows.length ≤ w := by
  have distinct : (rows.map Row.post).Nodup := List.pairwise_map.2 (ascending.imp Nat.ne_of_lt)
  have within : rows.map Row.post ⊆ List.range' (p + 1 - w) w := fun n hn => by
    obtain ⟨r, hr, rfl⟩ := List.mem_map.1 hn
    have := reached r hr
    have := young r hr
    rw [List.mem_range'_1]
    omega
  simpa using (distinct.subperm within).length_le

theorem State.Windowed.armed_of_row {s : State} (h : s.Windowed) {r : Row} (hr : r ∈ s.window.rows) : s.armed = true := by
  cases armed : s.armed with
  | true => rfl
  | false => rw [h.idle armed] at hr; exact nomatch hr

theorem State.Windowed.windowOk {s : State} (h : s.Windowed) : s.WindowOk := by
  have reached : ∀ r ∈ s.window.rows, r.post ≤ s.post := fun r hr =>
    h.reached (h.armed_of_row hr) _ (State.rowPost_held hr)
  exact {
    size := rows_length_le h.rows_ascending reached h.young
    ascending := h.rows_ascending
    range := fun r hr => ⟨h.first _ (State.rowPost_held hr), reached r hr, h.young r hr⟩
    ready := fun r hr => (h.rows r hr).ready
    oldest := h.oldest
    origin := fun r hr => (h.rows r hr).origin
    silentSpeed := fun r hr => (h.rows r hr).silentSpeed
    skipped := fun r hr => (h.rows r hr).skipped }

theorem State.Windowed.ringOk {s : State} (h : s.Windowed) : s.RingOk where
  ascending := h.ring_ascending
  fields g hg := ⟨h.first _ (State.carPost_held hg), h.records g hg⟩
  older armed g hg := ⟨h.reached armed _ (State.carPost_held hg), h.ring_behind_rows g hg⟩
  empty := h.unlocked

/-! ### The step lemma -/

/-- Window and ring, with the pacing and the bus they lean on. -/
structure State.Sound (s : State) : Prop where
  paced : s.Paced
  windowed : s.Windowed

/-- A change that keeps pacing and bus, outside window, ring, control block and current post. -/
theorem State.Sound.frame {s t : State} (h : s.Sound) (paced : t.Paced) (rows : t.window.rows = s.window.rows)
    (ring : t.ring = s.ring) (control : t.control = s.control) (post : t.post = s.post) : t.Sound :=
  ⟨paced, h.windowed.frame rows ring control post⟩

/-- A change of the bus alone that keeps pacing and bus. -/
theorem State.Sound.ofBus {s t : State} (h : s.resetn = true → s.Sound) (changed : ∃ bus, t = { s with bus })
    (paced : s.Paced → t.Paced) (high : t.resetn = true) : t.Sound := by
  obtain ⟨bus, rfl⟩ := changed
  exact (h high).frame (paced (h high).paced) rfl rfl rfl rfl

/-- Without a configuration in force the lock is clear, and there are no rows and no records. -/
theorem State.Windowed.unconfigured {s : State} (h : s.Windowed) (station : ¬ s.control.station.Configured) :
    s.control.lock = false ∧ s.window.rows = [] ∧ s.ring = [] := by
  have unlocked : s.control.lock = false := Bool.eq_false_iff.2 (mt h.lock.1 station)
  exact ⟨unlocked, h.idle (Bool.eq_false_iff.2 (mt State.armed_configured station)), h.unlocked unlocked⟩

/-- Every update of the state keeps window and ring in order while RESETN is high. -/
theorem keeps_sound : Keeps fun s => s.resetn = true → s.Sound := by
  have paced : ∀ {s : State}, (s.resetn = true → s.Sound) → s.resetn = true → s.Paced := fun h high => (h high).paced
  constructor
  case port => exact fun s port h high => (h high).frame ((h high).paced.frame rfl rfl rfl rfl rfl) rfl rfl rfl rfl
  case drawn | pending | bothLines | burst | elapse | conflict | recordOut | runOut | alert =>
    intros
    rename_i h high
    exact (h high).frame ((h high).paced.frame rfl rfl rfl rfl rfl) rfl rfl rfl rfl
  case crcError => exact fun s h high => (h high).frame (keeps_paced.crcError s (paced h) high) rfl rfl rfl rfl
  case duplicate => exact fun s h high => (h high).frame (keeps_paced.duplicate s (paced h) high) rfl rfl rfl rfl
  case edge => exact fun line s h high => (h high).frame ((h high).paced.edge line) rfl rfl rfl rfl
  case idleGap => exact fun s h high => (h high).frame (h high).paced.idleGap rfl rfl rfl rfl
  case lose => exact fun bit s h => .ofBus h (s.loseArbitration_frame bit) fun paced => paced.loseArbitration bit
  case abort => exact fun bit s h => .ofBus h (s.abortFrame_frame bit) fun paced => paced.abortFrame bit
  case sampleSent => exact fun s h => .ofBus h s.sampleSent_frame State.Paced.sampleSent
  case markSent =>
    intro s h high
    obtain ⟨paced, windowed⟩ := h (s.markSent_resetn ▸ high)
    exact ⟨paced.markSent, windowed.markSent paced⟩
  case adoptMark =>
    intro n s receives armed may h high
    obtain ⟨-, -, rise⟩ := (s.mayAdopt_iff n).1 may
    exact ⟨keeps_paced.adoptMark n s receives armed may (paced h) high,
      (h high).windowed.adoptMark armed ((h high).paced.depth (.inr armed)) rise⟩
  case takeSample =>
    intro sender n x s receives armed first top peer range h high
    obtain ⟨own, windowed⟩ := h (s.takeSample_resetn sender n x ▸ high)
    exact ⟨keeps_paced.takeSample sender n x s receives armed first top peer range (paced h) high,
      windowed.takeSample armed (own.depth (.inr armed)) peer n x⟩
  case holdReset => exact fun s h high => nomatch high
  case powerOn =>
    exact fun a b c s h high => ⟨keeps_paced.powerOn a b c s (paced h) high,
      .of_empty (iff_of_false nofun (by simp [StationState.Configured, State.powerOn, Control.initial])) rfl rfl⟩
  case endSelfTest =>
    intro failed s test h high
    obtain ⟨unlocked, -, -⟩ := (h high).windowed.unconfigured (by simp [StationState.Configured, test])
    refine ⟨keeps_paced.endSelfTest failed s test (paced h) high, .of_empty (iff_of_false ?_ ?_) rfl rfl⟩
    · simp [State.endSelfTest, State.emptyMemories, unlocked]
    · simp only [State.endSelfTest, StationState.Configured]; split <;> simp
  case accept =>
    intro b s station judged length h high
    obtain ⟨-, rows, ring⟩ := (h high).windowed.unconfigured (by simp [StationState.Configured, station])
    exact ⟨keeps_paced.accept b s station judged length (paced h) high,
      .of_empty (iff_of_true rfl (.inl rfl)) rows ring⟩
  case refuse =>
    intro b s station h high
    obtain ⟨-, rows, ring⟩ := (h high).windowed.unconfigured (by simp [StationState.Configured, station])
    exact ⟨keeps_paced.refuse b s station (paced h) high, .of_empty (h high).windowed.lock rows ring⟩
  case arm =>
    intro s station h high
    have lock : s.control.lock = true := (h high).windowed.lock.2 (.inl station)
    exact ⟨keeps_paced.arm s station (paced h) high, .of_empty (iff_of_true lock (.inr (.inl rfl))) rfl rfl⟩
  case disarm =>
    exact fun s armed h high => ⟨keeps_paced.disarm s armed (paced h) high, (h high).windowed.disarm armed⟩
  case resync =>
    intro s armed h high
    have lock : s.control.lock = true := (h high).windowed.lock.2 (State.armed_configured armed)
    exact ⟨keeps_paced.resync s armed (paced h) high, .of_empty (iff_of_true lock (.inr (.inl rfl))) rfl rfl⟩

/-- Settles O57: window and ring hold one ascending sequence of posts with young rows and an OPEN oldest row, which every
update keeps together with pacing and bus. -/
theorem stepKeepsWindowAndRing : Obligations.StepKeepsWindowAndRing := by
  intro s t inv next high
  have sound : t.Sound := keeps_sound.step s t (fun on => ⟨inv.paced on, inv.windowed on⟩) next high
  exact ⟨sound.windowed.windowOk, sound.windowed.ringOk⟩

end Sys2Proof.Machine
end

section
/-! Storing, retirement and the order of retirement (R68, R71 to R73, R77, R80 to R83, R92, R103, R106). -/

namespace Sys2Proof.Machine

/-- The row at one place after a sample was stored for a post. -/
theorem storeIn_getElem? (c : StationConfig) (sender : Fin 8) (post : Nat) (x : Sample) {rows : List Row} {k : Nat}
    {r : Row} (held : rows[k]? = some r) :
    (storeIn c sender post x rows)[k]? = some (if r.post = post then fillSlot c sender x r else r) := by
  rw [storeIn, List.getElem?_map, held]
  rfl

/-- Settles O21: the rows after the sample are those of `storeIn`, and the one for its post is filled and tested. -/
theorem storedSampleFillsOneSlot : Obligations.StoredSampleFillsOneSlot := by
  intro sender n x s
  refine ⟨storeIn s.cfg sender n x s.window.rows, rfl, List.length_map _, fun k r held => ⟨_, storeIn_getElem? _ _ _ _ held,
    fun other => if_neg other, fun same => ?_⟩⟩
  rw [if_pos same]
  exact ⟨rfl, rfl, rfl, rfl, fillSlot_slot s.cfg sender x r,
    (fillSlot_ready s.cfg sender x r).trans (or_congr_right (needsMet_iff _ _))⟩

/-- Rows retired from the oldest end, and the rest put back as the window's rows. -/
theorem State.retiring_eq (leaves : Row → Bool) (s : State) :
    s.retiring leaves =
      (let f := (s.window.rows.takeWhile leaves).foldl (fun f row => retireRow s.trackEnv row f) s.flow
       s.withFlow { f with window := { f.window with rows := s.window.rows.dropWhile leaves } }) := by
  rw [State.retiring, retireWhile_eq]

/-- Settles O22: the two tests of the window differ in when the oldest row leaves, and a row is opened before the test. -/
theorem rowsRetireFromTheOldestEnd : Obligations.RowsRetireFromTheOldestEnd := fun p _ s =>
  ⟨s.settleRows_eq.trans (s.retiring_eq _), (s.expireRows_eq p).trans (s.retiring_eq _), rfl⟩

/-- The PEER edge is raised exactly when a needed peer is missing (R82). -/
theorem Alert.raiseIf_missing (missing : Byte) (a : Alert) :
    a.raiseIf (missing != 0) peerEdge = { a with edges := if missing = 0 then a.edges else a.edges ||| 8#4 } := by
  by_cases none : missing = 0 <;> simp [Alert.raiseIf, peerEdge, none]

/-- Settles O23: the missing peers of the record are those that are counted and that raise PEER. -/
theorem retirementHandsOnOneRecord : Obligations.RetirementHandsOnOneRecord := by
  intro e row f absent g
  have missing : ∀ i : Fin 8, inSet g.missing i = true ↔ absent i := inSet_missingPeers e.cfg row
  refine ⟨missing, fun i => ?_, rfl, rfl, rfl, rfl, rfl, ?_⟩
  · refine (countMissed_get g.missing f.window.missed i).trans ?_
    by_cases away : absent i
    · simp only [missing, away, true_and, if_true, addSat16_one]
    · simp only [missing, away, false_and, if_false]
  · exact congrArg (fun alert => evaluateRecord e g { f.tracks with alert }) (Alert.raiseIf_missing g.missing f.tracks.alert)

end Sys2Proof.Machine
end

section
/-! The effective values of an accepted block: what an accepted block holds (R186), and each effective value by the bytes it
is read from (R70, R90, R91, R128, R154, R185, R187). -/

namespace Sys2Proof.Machine

/-! ### What an accepted block holds -/

/-- No group of an accepted block is refused (R186, R189). -/
theorem groupsOk_of_accepted {b : List Byte} (h : judgeBlock b = .none) :
    identityOk b = true ∧ odometryOk b = true ∧ planOk b = true ∧ trackingOk b = true ∧ markingOk b = true := by
  unfold judgeBlock at h
  split_ifs at h
  simp_all

/-- The chord entries of an accepted block name stations (R90). -/
theorem chord_of_accepted {b : List Byte} (h : judgeBlock b = .none) {i : Nat} (lt : i < byteAt b 28) :
    byteAt b (chordAt i) ≤ 7 ∧ byteAt b (chordAt i + 1) ≤ 7 := by
  obtain ⟨-, -, plan, -, -⟩ := groupsOk_of_accepted h
  simp only [planOk, Bool.and_eq_true, List.all_eq_true, List.mem_range] at plan
  obtain ⟨⟨-, chords⟩, -⟩ := plan
  have ok := chords i lt
  simp only [chordOk, Bool.and_eq_true, decide_eq_true_eq, and_assoc] at ok
  obtain ⟨front, rear, -⟩ := ok
  exact ⟨front, rear⟩

/-- A PARTNER twist of an accepted block names a station (R91). -/
theorem partner_of_accepted {b : List Byte} (h : judgeBlock b = .none) {i : Nat} (lt : i < byteAt b 57)
    (partner : byteAt b (twistAt i) = 0) : byteAt b (twistAt i + 1) ≤ 7 := by
  obtain ⟨-, -, plan, -, -⟩ := groupsOk_of_accepted h
  simp only [planOk, Bool.and_eq_true, List.all_eq_true, List.mem_range] at plan
  obtain ⟨-, -, twists⟩ := plan
  have ok := twists i lt
  simp only [twistOk, partner, Bool.and_eq_true, Bool.or_eq_true, decide_eq_true_eq] at ok
  obtain ⟨-, history | ⟨station, -⟩⟩ := ok
  · exact absurd history (by decide)
  · exact station

/-! ### Fields -/

theorem byteAt_le (b : List Byte) (i : Nat) : byteAt b i ≤ 255 := Nat.le_of_lt_succ (b.getD i 0).isLt

theorem u16At_le (b : List Byte) (i : Nat) : u16At b i ≤ 65535 := by
  have := byteAt_le b i
  have := byteAt_le b (i + 1)
  simp only [u16At]
  omega

/-- A byte that is raised to at least 1 is clamped into 1 to 255. -/
theorem max_one_byteAt (b : List Byte) (i : Nat) : max 1 (byteAt b i) = max 1 (min 255 (byteAt b i)) := by
  rw [Nat.min_eq_right (byteAt_le b i)]

/-- A 16-bit field that is raised to at least 1 is clamped into 1 to 65535. -/
theorem max_one_u16At (b : List Byte) (i : Nat) : max 1 (u16At b i) = max 1 (min 65535 (u16At b i)) := by
  rw [Nat.min_eq_right (u16At_le b i)]

/-- A field in two's complement is its two bytes, high byte first. -/
theorem s16At_eq (b : List Byte) (i : Nat) : s16At b i = (b.getD i 0 ++ b.getD (i + 1) 0).toInt := pair_toInt _ _

/-- A byte of 0 to 7 names the station of that number. -/
theorem stationField_val {n : Nat} (h : n ≤ 7) : (stationField n).val = n := Nat.mod_eq_of_lt (Nat.lt_succ_of_le h)

/-- An entry of a list that is formed from a count is formed from a place below the count. -/
theorem map_range_getElem?_some {α : Type} {f : Nat → α} {n i : Nat} {x : α} (h : ((List.range n).map f)[i]? = some x) :
    i < n ∧ x = f i := by
  obtain ⟨lt, rfl⟩ := List.getElem?_eq_some_iff.1 h
  exact ⟨by simpa using lt, by simp⟩

/-- The bits of a set formed by `setWhere`. -/
theorem getLsbD_setWhere (p : Fin 8 → Bool) (i : Fin 8) : (setWhere p).getLsbD i = p i := inSet_setWhere p i

theorem quantityField_eq (code : Nat) : quantityField code = match code with
    | 0 => .alignment
    | 1 => .topLeft
    | _ => .topRight := by
  match code with
  | 0 => rfl
  | 1 => rfl
  | n + 2 => simp [quantityField]

theorem measureCode_chord : ∀ j : Fin 4, measureCode (j.val + 2) = .chord j := by decide

theorem measureCode_twist : ∀ j : Fin 2, measureCode (j.val + 6) = .twist j := by decide

/-! ### Entries -/

/-- The places of the bytes of an entry, as the table of R185 numbers them. -/
theorem chordAt_add (i k : Nat) : chordAt i + k = 29 + k + 7 * i := by simp only [chordAt]; omega

theorem twistAt_add (i k : Nat) : twistAt i + k = 58 + k + 2 * i := by simp only [twistAt]; omega

/-- The fields of a chord entry of an accepted block (R90). -/
theorem chordField_of_accepted {b : List Byte} (h : judgeBlock b = .none) {i : Nat} (lt : i < byteAt b 28) :
    let k := chordField b i
    k.front.val = byteAt b (29 + 7 * i) ∧ k.rear.val = byteAt b (30 + 7 * i) ∧
      k.a = max 1 (min 255 (byteAt b (31 + 7 * i))) ∧ k.b = max 1 (min 255 (byteAt b (32 + 7 * i))) ∧
      k.quantity = quantityField (byteAt b (33 + 7 * i)) ∧
      k.k = max 1 (min 65535 (256 * byteAt b (34 + 7 * i) + byteAt b (35 + 7 * i))) := by
  obtain ⟨front, rear⟩ := chord_of_accepted h lt
  have scale : u16At b (chordAt i + 5) = 256 * byteAt b (34 + 7 * i) + byteAt b (35 + 7 * i) := by
    rw [u16At, Nat.add_assoc, chordAt_add, chordAt_add]
  refine ⟨stationField_val front, ?_, ?_, ?_, ?_, ?_⟩
  · rw [← chordAt_add i 1]; exact stationField_val rear
  · rw [← chordAt_add i 2]; exact max_one_byteAt b _
  · rw [← chordAt_add i 3]; exact max_one_byteAt b _
  · rw [← chordAt_add i 4]; rfl
  · rw [← scale]; exact max_one_u16At b _

/-- The fields of a twist entry of an accepted block (R91). -/
theorem twistField_of_accepted {b : List Byte} (h : judgeBlock b = .none) {i : Nat} (lt : i < byteAt b 57) :
    (byteAt b (58 + 2 * i) = 0 →
      ∃ p : Fin 8, twistField b i = .partner p ∧ p.val = byteAt b (59 + 2 * i)) ∧
    (byteAt b (58 + 2 * i) = 1 → twistField b i = .history (max 1 (min 255 (byteAt b (59 + 2 * i))))) := by
  rw [← twistAt_add i 1, ← max_one_byteAt]
  refine ⟨fun partner => ⟨_, if_pos partner, stationField_val (partner_of_accepted h lt partner)⟩, fun history => if_neg ?_⟩
  exact fun partner => absurd (partner.symm.trans history) (by decide)

/-- The entry of a nozzle that is fitted (R154). -/
theorem nozzleField_fitted {b : List Byte} {x : Nozzle} (fitted : byteAt b (nozzleAt x) = 1) :
    ∃ n, nozzleField b x = some n ∧ n.offset = max 1 (min 255 (byteAt b (nozzleAt x + 1))) ∧
      n.minClass = max 1 (min 3 (byteAt b (nozzleAt x + 2))) ∧ (n.anchor = .start ↔ byteAt b (nozzleAt x + 3) = 0) ∧
      n.pulse = max 1 (min 255 (byteAt b (nozzleAt x + 4))) ∧
      ∀ i : Fin 8, n.mask.getLsbD i = true ↔
        (byteAt b (nozzleAt x + 5)).testBit i = true ∧ i.val < byteAt b 62 := by
  have entry := fitted.trans_ne Nat.one_ne_zero
  simp only [nozzleField, entry, if_false]
  refine ⟨_, rfl, max_one_byteAt b _, rfl, by simp, max_one_byteAt b _, fun i => ?_⟩
  rw [getLsbD_setWhere, Bool.and_eq_true, decide_eq_true_eq]
  rfl

/-- A nozzle that is not fitted has no entry (R154). -/
theorem nozzleField_none {b : List Byte} {x : Nozzle} (h : byteAt b (nozzleAt x) = 0) : nozzleField b x = none := if_pos h

/-- The station a twist names is its partner (R70). -/
theorem twistNames_iff (t : Twist) (i : Fin 8) : twistNames t i = true ↔ t = .partner i := by
  cases t <;> simp [twistNames]

/-- The needed set: the own number, and the stations that chords and PARTNER twists name (R70). -/
theorem mem_neededSet (own : Fin 8) (chords : List Chord) (twists : List Twist) (i : Fin 8) :
    inSet (neededSet own chords twists) i = true ↔
      i = own ∨ (∃ k ∈ chords, k.front = i ∨ k.rear = i) ∨ Twist.partner i ∈ twists := by
  rw [neededSet, inSet_setWhere]
  simp only [Bool.or_eq_true, List.any_eq_true, chordNames, beq_iff_eq, twistNames_iff, exists_eq_right, or_assoc,
    eq_comm (a := own)]

/-- The limits of a tracked measure are clamped in the order of R128, and the bounds hold that it gives. -/
theorem measureField_bounds (b : List Byte) (i : Nat) :
    let m := measureField b i
    m.l1 ≤ m.l2 ∧ m.l2 ≤ m.l3 ∧ m.l3 ≤ 32767 ∧ m.h ≤ m.l1 ∧ m.g ≤ 15 ∧ 1 ≤ m.m ∧ m.m ≤ 255 := by
  have := byteAt_le b (measureAt i + 12)
  simp only [measureField]
  omega

/-- The measure of an entry is the one its code names (R185). -/
theorem measureField_measure {b : List Byte} {i code : Nat} (h : byteAt b (measureAt i) = code) :
    (measureField b i).measure = measureCode code := congrArg measureCode h

/-- Settles O42: an accepted block is refused in no group, and each effective field is the one of its entry. -/
theorem effectiveValuesAreClamped : Obligations.EffectiveValuesAreClamped := by
  refine ⟨fun b _ accepted => ?_, fun b i => ?_⟩
  · intro at' clamped constants c
    obtain ⟨identity, -, -, -, -⟩ := groupsOk_of_accepted accepted
    have counted : ∀ {α : Type} (f : Nat → α) (n : Nat), ((List.range n).map f).length = n := fun f n => by simp
    refine ⟨⟨stationField_val (of_decide_eq_true identity), rfl, rfl, beq_iff_eq, max_one_byteAt b 5, rfl,
        max_one_byteAt b 7, rfl, ?_⟩,
      ⟨counted _ _, counted _ _, counted _ _⟩, ?_, fun i lt => ?_, fun i k held => ?_, fun i k held => ?_, fun x => ?_,
      mem_neededSet _ _ _⟩
    · have autoEnd : c.autoEnd = (at' 179).testBit 0 := rfl
      rw [autoEnd, Nat.testBit_zero, decide_eq_true_eq]
    · simp only [c, effective, calibrationField, s16At_eq]
      rfl
    · have entries : c.measures = (List.range (at' 62)).map (measureField b) := rfl
      rw [entries, List.getElem?_map, List.getElem?_range lt]
      rfl
    · obtain ⟨lt, rfl⟩ := map_range_getElem?_some held
      obtain ⟨front, rear, a, b, quantity, scale⟩ := chordField_of_accepted accepted lt
      exact ⟨front, rear, a, b, quantity.trans (quantityField_eq _), scale⟩
    · obtain ⟨lt, rfl⟩ := map_range_getElem?_some held
      exact twistField_of_accepted accepted lt
    · cases x
      · exact ⟨nozzleField_none (x := .left), nozzleField_fitted (x := .left)⟩
      · exact ⟨nozzleField_none (x := .right), nozzleField_fitted (x := .right)⟩
  · intro at' m
    exact ⟨measureField_measure, measureField_measure,
      fun j code => (measureField_measure code).trans (measureCode_chord j),
      fun j code => (measureField_measure code).trans (measureCode_twist j),
      s16At_eq b _, rfl, rfl, rfl, rfl, rfl, rfl, measureField_bounds b i⟩

end Sys2Proof.Machine
end

section
/-! The Chord Engine: when a chord's or a twist's value is present and what it is (R96 to R102), what a HISTORY twist finds
in the ring (R101, R122), and the record of a row by its own slot and the plan (R93 to R95, R104, R107, R110). -/

namespace Sys2Proof.Machine

/-! ### Chords -/

/-- A chord has no value when one of its three inputs is absent (R96). -/
theorem chordValue_of_absent {own : Fin 8} {row : Row} {c : Chord}
    (absent : chordInput row c.quantity c.front = none ∨ chordInput row c.quantity own = none ∨
      chordInput row c.quantity c.rear = none) : chordValue own row c = none := by
  rw [chordValue]
  split
  next yF yM yB front middle rear => simp [front, middle, rear] at absent
  next => rfl

/-- With its three inputs present, a chord's value is the clamped scaled versine with the union of their flags (R97 to
R99). -/
theorem chordValue_of_present {own : Fin 8} {row : Row} {c : Chord} {yF yM yB : Value}
    (front : chordInput row c.quantity c.front = some yF) (middle : chordInput row c.quantity own = some yM)
    (rear : chordInput row c.quantity c.rear = some yB) :
    chordValue own row c =
      some (clampedValue (scaledVersine c yF.dc yM.dc yB.dc) ((yF.flags.union yM.flags).union yB.flags)) := by
  rw [chordValue, front, middle, rear]

/-- Settles O25: the picked inputs are those of `chordValue`, and its three steps give n, v and s. -/
theorem chordValueIsTheScaledVersine : Obligations.ChordValueIsTheScaledVersine := by
  intro own row c pick
  have picked : ∀ i, chordInput row c.quantity i = pick i := by
    intro i
    simp only [pick, chordInput, Row.sample]
    cases row.slots[i] with
    | none => rfl
    | some x => cases c.quantity <;> rfl
  simp only [← picked]
  refine ⟨chordValue_of_absent, fun yF yM yB front middle rear => ?_⟩
  rw [chordValue_of_present front middle rear, clampedValue_eq]
  rfl

/-! ### Twists -/

/-- A twist is the difference of two cants, absent when either is (R100, R101). -/
theorem twistValue_eq_map₂ (own : Fin 8) (ring : List GeometryRecord) (row : Row) (t : Twist) :
    twistValue own ring row t =
      Option.map₂ cantDifference ((row.sample own).bind Sample.cant) (twistOther ring row t) := by
  rw [twistValue]
  cases (row.sample own).bind Sample.cant <;> cases twistOther ring row t <;> rfl

/-- In a list whose keys ascend strictly, looking for the key of an element finds that element. -/
theorem find?_key_of_ascending {α κ : Type} [Preorder κ] [BEq κ] [LawfulBEq κ] (key : α → κ) {l : List α} {g : α}
    (held : g ∈ l) (ascending : l.Pairwise fun x y => key x < key y) : l.find? (fun x => key x == key g) = some g := by
  induction l with
  | nil => cases held
  | cons x xs ih =>
    obtain ⟨below, ascending⟩ := List.pairwise_cons.1 ascending
    rcases List.mem_cons.1 held with rfl | held
    · exact List.find?_cons_of_pos (beq_self_eq_true _)
    · exact Eq.trans (List.find?_cons_of_neg fun same => (below g held).ne (eq_of_beq same)) (ih held ascending)

/-- A lookup finds a held record by its car post while car posts ascend (R122). -/
theorem ringLookup_of_mem {ring : List GeometryRecord} {g : GeometryRecord} (held : g ∈ ring)
    (ascending : ring.Pairwise fun x y => x.carPost < y.carPost) : ringLookup ring g.carPost = some g :=
  find?_key_of_ascending GeometryRecord.carPost held ascending

/-- A lookup finds nothing when no record has the car post (R122). -/
theorem ringLookup_of_absent {ring : List GeometryRecord} {post : Nat} (absent : ∀ g ∈ ring, g.carPost ≠ post) :
    ringLookup ring post = none :=
  List.find?_eq_none.2 fun g held same => absent g held (eq_of_beq same)

/-- A twist whose base reaches back to post 0 or before has no base record (R101). -/
theorem baseCant_of_le (ring : List GeometryRecord) {post base : Nat} (le : post ≤ base) :
    baseCant ring post base = none := if_pos le

/-- The base record is the one that the ring holds for the base post (R101). -/
theorem baseCant_of_lt (ring : List GeometryRecord) {post base : Nat} (lt : base < post) :
    baseCant ring post base = (ringLookup ring (post - base)).bind GeometryRecord.cant := if_neg (Nat.not_le_of_lt lt)

/-- Settles O26: both kinds of twist take `cantDifference` of the own cant and another, which for HISTORY is looked up. -/
theorem twistValueIsTheCantDifference : Obligations.TwistValueIsTheCantDifference := by
  intro own ring row cant less
  have cant_eq : ∀ i, (row.sample i).bind Sample.cant = cant i := by
    intro i
    simp only [cant, Row.sample]
    cases row.slots[i] <;> rfl
  have less_eq : ∀ x y, Option.map₂ cantDifference x y = less x y
    | none, _ | some _, none => rfl
    | some x, some y => congrArg some (clampedValue_eq (x.dc - y.dc) (x.flags.union y.flags))
  have partner : ∀ i, twistOther ring row (.partner i) = cant i := cant_eq
  have history : ∀ base, twistOther ring row (.history base) = baseCant ring row.post base := fun _ => rfl
  simp only [twistValue_eq_map₂, cant_eq, partner, history]
  refine ⟨fun i => less_eq _ _, fun base => ⟨fun le => ?_, fun lt absent => ?_, fun lt g held post ascending => ?_⟩⟩
  · rw [baseCant_of_le ring le, Option.map₂_none_right]
  · rw [baseCant_of_lt ring lt, ringLookup_of_absent absent, Option.bind_none, Option.map₂_none_right]
  · rw [baseCant_of_lt ring lt, ← post, ringLookup_of_mem held ascending, Option.bind_some, less_eq]

/-! ### The record of a row -/

/-- Chord `i + 1` of a record is the value of the plan's chord `i + 1`, if the plan has one (R104, R110). -/
theorem recordOf_chord (c : StationConfig) (ring : List GeometryRecord) (row : Row) (i : Fin 4) :
    (recordOf c ring row).chords[i] = c.chords[i.val]?.bind (chordValue c.station row) := by
  match i with
  | 0 | 1 | 2 | 3 => rfl

/-- Twist `j + 1` of a record is the value of the plan's twist `j + 1`, if the plan has one (R104, R110). -/
theorem recordOf_twist (c : StationConfig) (ring : List GeometryRecord) (row : Row) (j : Fin 2) :
    (recordOf c ring row).twists[j] = c.twists[j.val]?.bind (twistValue c.station ring row) := by
  match j with
  | 0 | 1 => rfl

/-- An absent slot gives no sample. -/
theorem Row.sample_of_absent {row : Row} {i : Fin 8} (absent : row.slots[i] = none) : row.sample i = none := by
  rw [Row.sample, absent, Option.map_none]

/-- Without the own slot no chord has a value (R96, R107). -/
theorem chordValue_of_no_own {own : Fin 8} {row : Row} (absent : row.slots[own] = none) (c : Chord) :
    chordValue own row c = none :=
  chordValue_of_absent (.inr (.inl (by rw [chordInput, Row.sample_of_absent absent, Option.bind_none])))

/-- Without the own slot no twist has a value (R100, R101, R107). -/
theorem twistValue_of_no_own {own : Fin 8} {row : Row} (absent : row.slots[own] = none) (ring : List GeometryRecord)
    (t : Twist) : twistValue own ring row t = none := by
  rw [twistValue_eq_map₂, Row.sample_of_absent absent, Option.bind_none, Option.map₂_none_left]

/-- Gdev and C of a record are those of the own slot (R95). -/
theorem recordOf_own {c : StationConfig} {row : Row} {own : Slot} (present : row.slots[c.station] = some own)
    (ring : List GeometryRecord) :
    (recordOf c ring row).gdev = own.gdev ∧ (recordOf c ring row).cant = own.sample.cant := by
  simp [recordOf, Row.sample, present]

/-- Without the own slot a record has neither Gdev nor C (R95, R107). -/
theorem recordOf_no_own {c : StationConfig} {row : Row} (absent : row.slots[c.station] = none)
    (ring : List GeometryRecord) : (recordOf c ring row).gdev = none ∧ (recordOf c ring row).cant = none := by
  simp [recordOf, Row.sample, absent]

/-- Settles O24: identity fields are copied, Gdev and C come from the own slot, and the values follow the plan. -/
theorem recordTakesItsFieldsFromTheRow : Obligations.RecordTakesItsFieldsFromTheRow := by
  intro c ring row g
  have chord : ∀ i : Fin 4, g.chords[i] = c.chords[i.val]?.bind (chordValue c.station row) := recordOf_chord c ring row
  have twist : ∀ j : Fin 2, g.twists[j] = c.twists[j.val]?.bind (twistValue c.station ring row) :=
    recordOf_twist c ring row
  refine ⟨rfl, rfl, rfl, rfl, rfl, rfl, fun own present => recordOf_own present ring, fun absent => ?_,
    fun i beyond => ?_, fun i k planned => ?_, fun j beyond => ?_, fun j k planned => ?_⟩
  · obtain ⟨gdev, cant⟩ := recordOf_no_own absent ring
    refine ⟨gdev, cant, fun i => ?_, fun j => ?_⟩
    · rw [chord, Option.bind_eq_none_iff]
      exact fun k _ => chordValue_of_no_own absent k
    · rw [twist, Option.bind_eq_none_iff]
      exact fun k _ => twistValue_of_no_own absent ring k
  · rw [chord, List.getElem?_eq_none beyond, Option.bind_none]
  · rw [chord, planned, Option.bind_some]
  · rw [twist, List.getElem?_eq_none beyond, Option.bind_none]
  · rw [twist, planned, Option.bind_some]

end Sys2Proof.Machine
end

section
/-! The step lemma for the Recorder Port (R118, R148, R150, R195, R201 to R203): what is left to shift out and the history
window survive every change that loses no record and no run, and every command taken leaves an answer that fits. -/

namespace Sys2Proof.Machine

/-! ### The port and what it leans on -/

/-- An open history window has its cursor within it, in a run that goes on (R201, R202). -/
def State.WindowFits (s : State) : Prop :=
  ∀ w, s.port.window = some w → s.armed = true ∧ w.first ≤ w.cursor ∧ w.cursor ≤ w.last + 1

/-- The stores and the window hold what is left to shift out, and in SELF_TEST nothing is (R118, R148, R182, R203). -/
def State.Offers (s : State) : Shifting → Prop
  | .plain => True
  | .records n => s.control.station ≠ .selfTest ∧ n ≤ 8 ∧ n ≤ s.results.fifo.length
  | .runs n => s.control.station ≠ .selfTest ∧ n ≤ 8 ∧ n ≤ s.tracker.queue.length
  | .entries n _ => s.control.station ≠ .selfTest ∧ n ≤ 8 ∧ ∃ w, s.port.window = some w ∧ w.cursor + n ≤ w.last + 1

/-- What the invariant says of a transaction in progress (R195). -/
structure State.Carries (s : State) (t : Transaction) : Prop where
  selected : s.port.selected = true
  shifted : t.shifted ≤ t.response.length
  offers : s.Offers t.shifting

/-- The invariant of the port, by window and transaction. -/
theorem State.portOk_iff (s : State) :
    s.PortOk ↔ s.WindowFits ∧ ∀ t, s.port.transaction = some t → s.Carries t := by
  constructor
  · intro h
    refine ⟨h.window, fun t held => ⟨h.selected (by rw [held]; rfl), h.shifted t held, ?_⟩⟩
    have untested : t.shifting ≠ .plain → s.control.station ≠ .selfTest := fun e test => e (h.testing t test held)
    cases e : t.shifting with
    | plain => exact trivial
    | records n => exact ⟨untested (by simp [e]), h.records t n held e⟩
    | runs n => exact ⟨untested (by simp [e]), h.runs t n held e⟩
    | entries n lookedUp => exact ⟨untested (by simp [e]), h.entries t n lookedUp held e⟩
  · rintro ⟨window, carries⟩
    have offers : ∀ t x, s.port.transaction = some t → t.shifting = x → s.Offers x := fun t _ held e =>
      e ▸ (carries t held).offers
    exact {
      selected := fun some => by
        obtain ⟨t, held⟩ := Option.isSome_iff_exists.1 some
        exact (carries t held).selected
      shifted := fun t held => (carries t held).shifted
      window := window
      records := fun t n held e => (offers t _ held e).2
      runs := fun t n held e => (offers t _ held e).2
      entries := fun t n b held e => (offers t _ held e).2
      testing := fun t test held => by
        cases e : t.shifting with
        | plain => rfl
        | records | runs | entries => exact absurd test (offers t _ held e).1 }

/-- A port without a transaction is sound when its window is. -/
theorem State.WindowFits.portOk {s : State} (h : s.WindowFits) (ended : s.port.transaction = none) : s.PortOk :=
  s.portOk_iff.2 ⟨h, fun _ held => nomatch ended.symm.trans held⟩

/-- A transaction that goes on is sound when the window is and the stores hold what is left. -/
theorem State.WindowFits.withTransaction {s : State} (h : s.WindowFits) {t : Transaction}
    (shifted : t.shifted ≤ t.response.length) (offers : s.Offers t.shifting) : (s.withTransaction t).PortOk := by
  refine (State.portOk_iff _).2 ⟨h, fun u held => ?_⟩
  cases held
  refine ⟨rfl, shifted, ?_⟩
  cases e : t.shifting <;> exact e ▸ offers

/-! ### Changes that lose no record and no run -/

/-- The port stays, a run goes on, SELF_TEST is not entered, and no record leaves the FIFO and no run its queue. -/
structure State.Grows (s t : State) : Prop where
  port : t.port = s.port
  armed : s.armed = true → t.armed = true
  test : t.control.station = .selfTest → s.control.station = .selfTest
  fifo : s.results.fifo.length ≤ t.results.fifo.length
  runs : s.tracker.queue.length ≤ t.tracker.queue.length

theorem State.Grows.refl (s : State) : s.Grows s := ⟨rfl, id, id, Nat.le_refl _, Nat.le_refl _⟩

theorem State.Grows.trans {s t u : State} (h : s.Grows t) (g : t.Grows u) : s.Grows u :=
  ⟨g.port.trans h.port, g.armed ∘ h.armed, h.test ∘ g.test, Nat.le_trans h.fifo g.fifo, Nat.le_trans h.runs g.runs⟩

/-- A change outside port, control block, FIFO and Run Queue. -/
theorem State.Grows.frame {s t : State} (port : t.port = s.port) (control : t.control = s.control)
    (results : t.results = s.results) (tracker : t.tracker = s.tracker) : s.Grows t :=
  ⟨port, fun h => by rwa [State.armed, control], fun h => by rwa [control] at h, by rw [results], by rw [tracker]⟩

/-- A change of the bus alone. -/
theorem State.Grows.ofBus {s t : State} (changed : ∃ bus, t = { s with bus }) : s.Grows t := by
  obtain ⟨bus, rfl⟩ := changed
  exact .frame rfl rfl rfl rfl

theorem State.PortOk.grow {s t : State} (h : s.PortOk) (grows : s.Grows t) : t.PortOk := by
  obtain ⟨window, carries⟩ := s.portOk_iff.1 h
  refine t.portOk_iff.2 ⟨fun w held => ?_, fun u held => ?_⟩
  · obtain ⟨armed, cursor⟩ := window w (grows.port ▸ held)
    exact ⟨grows.armed armed, cursor⟩
  · obtain ⟨selected, shifted, offers⟩ := carries u (grows.port ▸ held)
    refine ⟨grows.port ▸ selected, shifted, ?_⟩
    have untested : s.control.station ≠ .selfTest → t.control.station ≠ .selfTest := mt grows.test
    cases e : u.shifting with
    | plain => exact trivial
    | records n =>
      obtain ⟨tested, few, held⟩ : s.Offers (.records n) := e ▸ offers
      exact ⟨untested tested, few, Nat.le_trans held grows.fifo⟩
    | runs n =>
      obtain ⟨tested, few, held⟩ : s.Offers (.runs n) := e ▸ offers
      exact ⟨untested tested, few, Nat.le_trans held grows.runs⟩
    | entries n lookedUp =>
      obtain ⟨tested, few, held⟩ : s.Offers (.entries n lookedUp) := e ▸ offers
      exact ⟨untested tested, few, grows.port ▸ held⟩

/-! ### Records and runs that join their stores -/

/-- An offer takes no place from the Run Queue: what it evicts it replaces (R146). -/
theorem offerRun_length (held : Nat) (r : RunRecord) (t : Tracker) : t.queue.length ≤ (offerRun held r t).queue.length := by
  obtain ⟨_, eq⟩ | ⟨_, k, _, lt, eq⟩ | ⟨_, eq⟩ := offerRun_frame held r t <;> rw [eq]
  · simp
  · simp [List.length_eraseIdx_of_lt lt]; omega

/-- The evaluation of a record and FORCED closes leave at least `n` queued runs. -/
theorem runsAtLeast_closed (e : TrackEnv) (n : Nat) : Tracks.Closed e fun t => n ≤ t.tracker.queue.length where
  runs _ _ h := h
  edges _ _ h := h
  request t x target h := by rwa [requestMark_tracker]
  spike _ h := h
  keep t i cause r h := Nat.le_trans h
    (offerRun_length e.held (runRecord i cause t.tracker.sequence r) { t.tracker with sequence := t.tracker.sequence + 1 })

/-- A record handed to the FIFO takes no other's place (R114). -/
theorem Results.store_length (g : GeometryRecord) (r : Results) : r.fifo.length ≤ (r.store g).fifo.length := by
  rw [Results.store]
  split <;> simp

/-- Rows that retire leave at least as many records and runs as there were (R106). -/
theorem retireWhile_grows (e : TrackEnv) (leaves : Row → Bool) (rows : List Row) (f : Flow) :
    f.results.fifo.length ≤ (retireWhile e leaves rows f).results.fifo.length ∧
      f.tracks.tracker.queue.length ≤ (retireWhile e leaves rows f).tracks.tracker.queue.length := by
  refine retireWhile_keeps (P := fun g => f.results.fifo.length ≤ g.results.fifo.length ∧
    f.tracks.tracker.queue.length ≤ g.tracks.tracker.queue.length) e leaves (fun _ _ h => h) (fun row g h => ?_) rows f
    ⟨Nat.le_refl _, Nat.le_refl _⟩
  obtain ⟨fifo, runs⟩ := h
  exact ⟨Nat.le_trans fifo (Results.store_length _ _), (runsAtLeast_closed e _).record _ _ runs⟩

theorem State.Grows.retiring {s t : State} (h : s.Grows t) (leaves : Row → Bool) : s.Grows (t.retiring leaves) := by
  obtain ⟨fifo, runs⟩ := retireWhile_grows t.trackEnv leaves t.window.rows t.flow
  exact h.trans ⟨rfl, id, id, fifo, runs⟩

/-- The window is tested with other rows. -/
theorem State.Grows.settle {s t : State} (h : s.Grows t) (rows : List Row) :
    s.Grows (State.settleRows { t with window := { t.window with rows } }) :=
  State.Grows.retiring (t := { t with window := { t.window with rows } }) (h.trans (.frame rfl rfl rfl rfl)) Row.isReady

theorem State.Grows.postAdvance {s t : State} (h : s.Grows t) (p : Nat) : s.Grows (t.postAdvance p) :=
  State.Grows.retiring (t := { t.advanceMarker p with bus := (t.advanceMarker p).bus.shed t.cfg.depth p })
    (h.trans (.frame rfl rfl rfl rfl)) _

theorem State.Grows.latch {s t : State} (h : s.Grows t) (n skipped : Nat) : s.Grows (t.latch n skipped) :=
  State.Grows.trans
    (State.Grows.settle (t := t.closeInterval n) (h.trans (.frame rfl rfl rfl rfl))
      (t.window.rows ++ [latchedRow t.cfg n skipped (t.latchSpeed n) t.localQuantities]))
    (.frame rfl rfl rfl rfl)

theorem State.Grows.completeMark {s t : State} (h : s.Grows t) (k : Nat) : s.Grows (t.completeMark k) := by
  have entered : s.Grows (State.enterPost k { t with odo := { t.odo with acc := clampAcc (t.odo.acc - pitch) } }) :=
    h.trans ⟨rfl, fun _ => rfl, nofun, Nat.le_refl _, Nat.le_refl _⟩
  exact ((entered.postAdvance k).latch k 0).trans (.frame rfl rfl rfl rfl)

theorem State.grows_takeIndex (n : Nat) (s : State) : s.Grows (s.takeIndex n) :=
  ⟨rfl, fun _ => rfl, nofun, Nat.le_refl _, Nat.le_refl _⟩

theorem State.grows_markSent (s : State) : s.Grows s.markSent := by
  rw [State.markSent]
  split
  · have sent : s.Grows { s with bus := { s.bus.frameSent with slot := none } } := .frame rfl rfl rfl rfl
    exact sent.completeMark _
  · exact .frame rfl rfl rfl rfl
  · exact .refl s

theorem State.grows_receiveMark (f : MarkFrame) (s : State) : s.Grows (s.receiveMark f) := by
  rw [State.receiveMark, State.takeMark]
  split
  · exact .refl s
  · split
    · split
      · exact .refl s
      · split
        · exact ((s.grows_takeIndex _).postAdvance _).latch _ _
        · exact .frame rfl rfl rfl rfl
    · exact .frame rfl rfl rfl rfl

theorem State.grows_takeSample (sender : Fin 8) (n : Nat) (x : Sample) (s : State) : s.Grows (s.takeSample sender n x) := by
  rw [State.takeSample]
  split
  · exact (((s.grows_takeIndex n).postAdvance n).settle _).settle _
  · split
    · split
      · exact (State.Grows.refl s).settle _
      · exact .frame rfl rfl rfl rfl
    · exact .frame rfl rfl rfl rfl

theorem State.grows_receiveSample (f : SampleFrame) (s : State) : s.Grows (s.receiveSample f) := by
  rw [State.receiveSample, State.disposeSample]
  split
  · exact .refl s
  · split
    · split
      · exact .refl s
      · split
        · exact .frame rfl rfl rfl rfl
        · split
          · exact .frame rfl rfl rfl rfl
          · exact s.grows_takeSample _ _ _
    · exact .frame rfl rfl rfl rfl

/-! ### Commands taken -/

/-- The answer of a command and the state with it make a sound port. -/
structure AnswerFits (r : Reply × State) : Prop where
  window : r.2.WindowFits
  offers : r.2.Offers r.1.shifting

/-- The answers of a command leave the port alone and nothing to shift out but the response itself. -/
def Portless (body : State → Reply × State) : Prop := ∀ s, (body s).1.shifting = .plain ∧ (body s).2.port = s.port

/-- With no window such an answer fits in any state. -/
theorem Portless.fits {body : State → Reply × State} (h : Portless body) {s : State} (closed : s.port.window = none) :
    AnswerFits (body s) := by
  obtain ⟨plain, port⟩ := h s
  refine ⟨fun w held => ?_, by rw [plain]; trivial⟩
  rw [port, closed] at held
  cases held

/-- The station state decides first (R197): BUSY and WRONG_STATE fit, and a command is answered outside SELF_TEST only. -/
theorem gated_fits {inFault : Bool} {body : State → Reply × State} {s : State} (h : s.WindowFits)
    (answer : s.control.station ≠ .selfTest → AnswerFits (body s)) : AnswerFits (gated inFault body s) := by
  rw [gated]
  split
  · exact ⟨h, trivial⟩
  next fault =>
    cases inFault
    · exact ⟨h, trivial⟩
    · exact answer (by simp [fault])
  all_goals exact answer (by simp [*])

theorem State.WindowFits.endTransaction {s : State} (h : s.WindowFits) : s.endTransaction.WindowFits := h

theorem State.windowFits_cancelWindow (s : State) : s.cancelWindow.WindowFits := nofun

/-- Bytes clocked in leave the port sound when the answer of the command they make fits. -/
theorem State.PortOk.clockIn {s : State} (h : s.PortOk) (code : Byte) (params : List Byte) (keeps : Bool)
    (body : List Byte → State → Reply × State)
    (answer : ∀ p u, u.WindowFits → (keeps = false → u.port.window = none) → AnswerFits (body p u)) :
    (Machine.clockIn code params keeps body s).PortOk := by
  obtain ⟨window, -⟩ := s.portOk_iff.1 h
  have fits : ∀ p received, (takeCommand received keeps (body p) s).PortOk := fun p received => by
    rw [takeCommand]
    have answered : AnswerFits (body p (if keeps then s.endTransaction else s.endTransaction.cancelWindow)) := by
      cases keeps
      · exact answer p _ (State.windowFits_cancelWindow _) fun _ => rfl
      · exact answer p _ window.endTransaction nofun
    exact answered.window.withTransaction (Nat.zero_le _) answered.offers
  obtain ⟨-, eq⟩ | ⟨-, -, eq⟩ | ⟨-, -, eq⟩ := clockIn_cases code params keeps body s <;> rw [eq]
  · exact h
  · exact window.withTransaction (Nat.zero_le _) trivial
  · exact fits _ _

/-- A command that neither keeps the window nor leaves anything to shift out. -/
theorem State.PortOk.portless {s : State} (h : s.PortOk) (code : Byte) (params : List Byte) (inFault : Bool)
    (body : List Byte → State → Reply × State) (answer : ∀ p, Portless (body p)) :
    (Machine.clockIn code params false (fun p => gated inFault (body p)) s).PortOk :=
  h.clockIn code params false _ fun p _ window closed => gated_fits window fun _ => (answer p).fits (closed rfl)

theorem portless_loadConfig (b : List Byte) : Portless (answerLoadConfig b) := by
  intro s
  rw [answerLoadConfig]
  split
  · split <;> exact ⟨rfl, rfl⟩
  · exact ⟨rfl, rfl⟩

theorem portless_arm : Portless answerArm := by
  intro s
  rw [answerArm]
  split <;> exact ⟨rfl, rfl⟩

theorem portless_disarm : Portless answerDisarm := by
  intro s
  rw [answerDisarm]
  split <;> exact ⟨rfl, rfl⟩

theorem portless_resync : Portless answerResync := by
  intro s
  rw [answerResync]
  split <;> exact ⟨rfl, rfl⟩

theorem portless_acknowledge : Portless answerAcknowledge := by
  intro s
  rw [answerAcknowledge]
  split <;> exact ⟨rfl, rfl⟩

theorem portless_endService (which : Byte) : Portless (answerEndService which) := by
  intro s
  rw [answerEndService]
  split
  · exact ⟨rfl, rfl⟩
  · split <;> exact ⟨rfl, rfl⟩

theorem portless_clearPending (which : Byte) : Portless (answerClearPending which) := by
  intro s
  rw [answerClearPending]
  split <;> exact ⟨rfl, rfl⟩

/-! ### Commands that leave something to shift out, and the window's own -/

theorem countParam_le (n : Byte) : countParam n ≤ 8 := by simp only [countParam]; omega

/-- TAKE_RESULTS offers at most eight records, and no more than are held (R118). -/
theorem takeResults_fits {s : State} (h : s.WindowFits) (test : s.control.station ≠ .selfTest) (n : Byte) :
    AnswerFits (answerTakeResults n s) := by
  simp only [answerTakeResults]
  split
  · exact ⟨h, trivial⟩
  · exact ⟨h, test, Nat.le_trans (Nat.min_le_left _ _) (countParam_le n), Nat.min_le_right _ _⟩

/-- TAKE_RUNS offers at most eight runs, and no more than are queued (R148). -/
theorem takeRuns_fits {s : State} (h : s.WindowFits) (test : s.control.station ≠ .selfTest) (n : Byte) :
    AnswerFits (answerTakeRuns n s) := by
  simp only [answerTakeRuns]
  split
  · exact ⟨h, trivial⟩
  · exact ⟨h, test, Nat.le_trans (Nat.min_le_left _ _) (countParam_le n), Nat.min_le_right _ _⟩

/-- HISTORY_WINDOW opens a window in a run only, with the cursor at its start (R201). -/
theorem historyWindow_fits {s : State} (h : s.WindowFits) (first last : Int) : AnswerFits (answerHistoryWindow first last s) := by
  rw [answerHistoryWindow]
  split
  next armed =>
    refine ⟨fun w opened => ?_, trivial⟩
    cases opened
    exact ⟨armed, Int.le_refl first, by simp only [openedWindow]; omega⟩
  · exact ⟨h, trivial⟩

/-- HISTORY_READ offers at most eight entries, and no more than the window has left (R203). -/
theorem historyRead_fits {s : State} (h : s.WindowFits) (test : s.control.station ≠ .selfTest) (n : Byte) :
    AnswerFits (answerHistoryRead n s) := by
  rw [answerHistoryRead]
  split
  · exact ⟨h, trivial⟩
  next w opened =>
    split
    · exact ⟨h, trivial⟩
    · exact ⟨h, test, Nat.le_trans (Nat.min_le_left _ _) (countParam_le n), w, opened, by omega⟩

/-! ### A transaction goes on -/

/-- RECORD_SHIFTED_OUT: one record fewer is held, and one fewer is left (R119). -/
theorem State.PortOk.recordOut {s : State} (h : s.PortOk) : s.recordOut.PortOk := by
  obtain ⟨window, carries⟩ := s.portOk_iff.1 h
  rw [State.recordOut]
  split
  next t held =>
    split
    next left shifting =>
      obtain ⟨test, few, fifo⟩ : s.Offers (.records (left + 1)) := shifting ▸ (carries t held).offers
      refine State.WindowFits.withTransaction (s := { s with results := { s.results with fifo := s.results.fifo.drop 1 } })
        window (Nat.sub_le _ _) ⟨test, by omega, ?_⟩
      rw [List.length_drop]
      omega
    · exact h
  · exact h

/-- RUN_SHIFTED_OUT: one run fewer is queued, and one fewer is left (R149). -/
theorem State.PortOk.runOut {s : State} (h : s.PortOk) : s.runOut.PortOk := by
  obtain ⟨window, carries⟩ := s.portOk_iff.1 h
  rw [State.runOut]
  split
  next t held =>
    split
    next left shifting =>
      obtain ⟨test, few, queue⟩ : s.Offers (.runs (left + 1)) := shifting ▸ (carries t held).offers
      refine State.WindowFits.withTransaction
        (s := { s with tracker := { s.tracker with queue := s.tracker.queue.drop 1 } })
        window (Nat.sub_le _ _) ⟨test, by omega, ?_⟩
      rw [List.length_drop]
      omega
    · exact h
  · exact h

/-- HISTORY_ENTRY_LOOKUP lengthens the response (R203). -/
theorem State.PortOk.lookUpEntry {s : State} (h : s.PortOk) : s.lookUpEntry.PortOk := by
  obtain ⟨window, carries⟩ := s.portOk_iff.1 h
  rw [State.lookUpEntry]
  split
  next t w held _ =>
    split
    next left shifting =>
      have offers : s.Offers (.entries (left + 1) false) := shifting ▸ (carries t held).offers
      exact window.withTransaction (by simp) offers
    · exact h
  · exact h

/-- HISTORY_ENTRY_SHIFTED_OUT moves the cursor by one post, which the entries left had kept free (R203). -/
theorem State.PortOk.entryOut {s : State} (h : s.PortOk) : s.entryOut.PortOk := by
  obtain ⟨window, carries⟩ := s.portOk_iff.1 h
  rw [State.entryOut]
  split
  next t w held opened =>
    split
    next left shifting =>
      obtain ⟨test, few, w', opened', room⟩ : s.Offers (.entries (left + 1) true) := shifting ▸ (carries t held).offers
      obtain rfl : w' = w := Option.some.inj (opened'.symm.trans opened)
      obtain ⟨armed, first, -⟩ := window w' opened
      refine State.WindowFits.withTransaction
        (s := { s with port := { s.port with window := some { w' with cursor := w'.cursor + 1 } } })
        (fun v moved => ?_) (Nat.le_refl _) ⟨test, by omega, _, rfl, ?_⟩
      · cases moved
        exact ⟨armed, Int.le_trans first (by simp), by simp only; omega⟩
      · simp only; omega
    · exact h
  · exact h

/-- DESELECT leaves the window alone (R195, R202). -/
theorem State.PortOk.endTransaction {s : State} (h : s.PortOk) : s.endTransaction.PortOk :=
  (s.portOk_iff.1 h).1.endTransaction.portOk rfl

/-- In SELF_TEST no window is open and nothing is left to shift out, so the memories may be emptied (R182). -/
theorem State.PortOk.endSelfTest {s : State} (h : s.PortOk) (test : s.control.station = .selfTest) (failed : BitVec 5) :
    (s.endSelfTest failed).PortOk := by
  obtain ⟨window, carries⟩ := s.portOk_iff.1 h
  refine (State.portOk_iff _).2 ⟨fun w opened => ?_, fun t held => ?_⟩
  · exact absurd test (State.armed_not_selfTest (window w opened).1)
  · obtain ⟨selected, shifted, -⟩ := carries t held
    have plain : t.shifting = .plain := h.testing t test held
    exact ⟨selected, shifted, by rw [plain]; trivial⟩

/-! ### The step lemma -/

/-- The port at the release of RESETN: no transaction and no window (R202). -/
theorem State.powerOn_portOk (a b d : Bool) (s : State) : (s.powerOn a b d).PortOk :=
  State.WindowFits.portOk nofun rfl

/-- Every command but POWER_ON_RESET keeps the port of a station whose RESETN is high sound. -/
theorem exec_portOk {c : Instr} {s t : State} (h : s.PortOk) (high : s.resetn = true) (notReset : c ≠ .powerOnReset)
    (next : exec c s = .next t) : t.PortOk := by
  have on : ∀ f : State → State, (f s).PortOk → (s.powered f).PortOk := fun f hf => by rwa [State.powered_high high]
  have grow : ∀ f : State → State, s.Grows (f s) → (s.powered f).PortOk := fun f hf => on f (h.grow hf)
  cases c
  case powerOnReset => exact absurd rfl notReset
  all_goals cases next
  case resetnRelease => rw [if_pos high]; exact h
  case selfTestEnd failed =>
    refine on _ ?_
    split
    next test => exact h.endSelfTest test failed
    · exact h
  case tachEdge | burstEnd | busIdleGap | valveExpiry | bothLinesChanged => exact grow _ (.frame rfl rfl rfl rfl)
  case stale => exact grow _ (by split <;> exact .frame rfl rfl rfl rfl)
  case arbitrationLost bit => exact grow _ (.ofBus (s.loseArbitration_frame bit))
  case transmitError bit => exact grow _ (.ofBus (s.abortFrame_frame bit))
  case ownSampleSent => exact grow _ (.ofBus s.sampleSent_frame)
  case ownMarkCompletion => exact grow _ s.grows_markSent
  case markFrame f => exact grow _ (s.grows_receiveMark f)
  case sampleFrame f => exact grow _ (s.grows_receiveSample f)
  case recordShiftedOut => exact on _ h.recordOut
  case runShiftedOut => exact on _ h.runOut
  case historyEntryLookup => exact on _ h.lookUpEntry
  case historyEntryShiftedOut => exact on _ h.entryOut
  case deselect => exact on _ h.endTransaction
  case identify =>
    exact on _ (h.clockIn 1 [] false _ fun _ _ _ closed => Portless.fits (fun _ => ⟨rfl, rfl⟩) (closed rfl))
  case unknownCommand code =>
    refine on _ ?_
    split
    · exact h
    · exact h.clockIn code [] false _ fun _ _ _ closed => Portless.fits (fun _ => ⟨rfl, rfl⟩) (closed rfl)
  case readStatus | setMask | setModes => exact on _ (h.portless _ _ _ _ fun _ _ => ⟨rfl, rfl⟩)
  case loadConfig => exact on _ (h.portless _ _ _ _ portless_loadConfig)
  case arm => exact on _ (h.portless _ _ _ _ fun _ => portless_arm)
  case disarm => exact on _ (h.portless _ _ _ _ fun _ => portless_disarm)
  case resync => exact on _ (h.portless _ _ _ _ fun _ => portless_resync)
  case acknowledge => exact on _ (h.portless _ _ _ _ fun _ => portless_acknowledge)
  case endService => exact on _ (h.portless _ _ _ _ fun _ => portless_endService _)
  case clearPending => exact on _ (h.portless _ _ _ _ fun _ => portless_clearPending _)
  case takeResults =>
    exact on _ (h.clockIn _ _ _ _ fun _ _ window _ => gated_fits window fun test => takeResults_fits window test _)
  case takeRuns =>
    exact on _ (h.clockIn _ _ _ _ fun _ _ window _ => gated_fits window fun test => takeRuns_fits window test _)
  case historyWindow =>
    exact on _ (h.clockIn _ _ _ _ fun _ _ window _ => gated_fits window fun _ => historyWindow_fits window _ _)
  case historyRead =>
    exact on _ (h.clockIn _ _ _ _ fun _ _ window _ => gated_fits window fun test => historyRead_fits window test _)

/-- Settles O60: a tick and every command keep the port sound, and the release of RESETN leaves it empty. -/
theorem stepKeepsTheRecorderPort : Obligations.StepKeepsTheRecorderPort := by
  intro s t inv next high
  rw [step] at next
  split at next
  · cases next
    exact (inv.port high).grow (.frame rfl rfl rfl rfl)
  next c rest _ =>
    cases low : s.resetn with
    | false =>
      obtain ⟨a, b, d, rfl⟩ := exec_low (s := { s with pending := rest }) low next high
      exact State.powerOn_portOk a b d _
    | true =>
      have port : State.PortOk { s with pending := rest } := (inv.port low).grow (.frame rfl rfl rfl rfl)
      refine exec_portOk port low ?_ next
      rintro rfl
      cases next
      exact nomatch high

end Sys2Proof.Machine
end

section
/-! The Result FIFO and the History Ring: what each makes of a record, and what a lookup finds (R113 to R116, R121 to
R123). -/

namespace Sys2Proof.Machine

/-- With room the record joins the FIFO and takes the tally with it (R114). -/
theorem Results.store_of_room (g : GeometryRecord) {r : Results} (room : r.fifo.length < 64) :
    r.store g = { fifo := r.fifo ++ [{ g with lostBefore := r.tally }], tally := 0, lost := r.lost } := if_pos room

/-- Without room the record is discarded and counted in tally and results-lost (R115, R116). -/
theorem Results.store_of_full (g : GeometryRecord) {r : Results} (full : 64 ≤ r.fifo.length) :
    r.store g = { fifo := r.fifo, tally := if r.tally < 255 then r.tally + 1 else r.tally,
                  lost := if r.lost < 65535 then r.lost + 1 else r.lost } := by
  rw [Results.store, if_neg (Nat.not_lt.2 full), addUpTo_one, addSat16_one]

/-- A record is stored or counted lost, never both (R114, R116). -/
theorem Results.store_accounts (g : GeometryRecord) {r : Results} (counting : r.lost < 65535) :
    (r.store g).fifo.length + (r.store g).lost = r.fifo.length + r.lost + 1 := by
  by_cases room : r.fifo.length < 64
  · simp only [Results.store_of_room g room, List.length_append, List.length_singleton]
    omega
  · simp only [Results.store_of_full g (Nat.not_lt.1 room), if_pos counting]
    omega

/-- The ring keeps the 512 youngest records (R121). -/
theorem ringAppend_eq_drop (g : GeometryRecord) {ring : List GeometryRecord} (h : ring.length ≤ 512) :
    ringAppend g ring = (ring ++ [g]).drop (ring.length + 1 - 512) := by
  rw [ringAppend]
  split
  next full =>
    rw [show ring.length + 1 - 512 = 1 by omega, List.drop_append_of_le_length (by omega)]
  next room => rw [show ring.length + 1 - 512 = 0 by omega, List.drop_zero]

/-- A lookup finds a held record by its track post while track posts ascend (R123). -/
theorem trackLookup_of_mem {ring : List GeometryRecord} {g : GeometryRecord} (held : g ∈ ring)
    (ascending : ring.Pairwise fun x y => x.trackPost < y.trackPost) : trackLookup ring g.trackPost = some g :=
  find?_key_of_ascending GeometryRecord.trackPost held ascending

/-- A lookup finds nothing when no record has the track post (R123). -/
theorem trackLookup_of_absent {ring : List GeometryRecord} {t : Int} (absent : ∀ g ∈ ring, g.trackPost ≠ t) :
    trackLookup ring t = none :=
  List.find?_eq_none.2 fun g held same => absent g held (eq_of_beq same)

/-- Settles O27: the FIFO by its room, the ring by its size, and the lookups by the order of the posts. -/
theorem storesKeepTheRecords : Obligations.StoresKeepTheRecords :=
  ⟨fun g _ => ⟨Results.store_of_room g, Results.store_of_full g, Results.store_accounts g⟩,
    fun g _ size => ⟨ringAppend_eq_drop g size, fun ascending held => ringLookup_of_mem held ascending,
      fun ascending held => trackLookup_of_mem held ascending, fun _ => ringLookup_of_absent,
      fun _ => trackLookup_of_absent⟩⟩

end Sys2Proof.Machine
end

section
/-! Taking results and runs, and the progress and end of a transaction: what the answers carry, what a record or run shifted
out leaves, and the bits on RDI and RDO (R118, R119, R148 to R150, R195, R196, R202, R203). -/

namespace Sys2Proof.Machine

/-! ### Commands taken -/

/-- The station with no transaction in progress, and the given history window. -/
def State.between (window : Option HistoryWindow) (s : State) : State :=
  { s with port := { selected := false, transaction := none, window } }

/-- A command is answered from the state with no transaction, and with the window if it keeps it (R195, R202). -/
theorem takeCommand_eq (received : List Byte) (keeps : Bool) (body : State → Reply × State) (s : State) :
    takeCommand received keeps body s =
      (let r := body (s.between (if keeps then s.port.window else none))
       r.2.respond received r.1) := by
  cases keeps <;> rfl

/-- A complete command that is taken outside SELF_TEST and FAULT, and whose answer changes the window alone (R196). -/
theorem State.takesTransactions.answers {s : State} (h : s.takesTransactions) {code : Byte} {params : List Byte}
    (whole : params.length = paramCount code) (test : s.control.station ≠ .selfTest) (fault : s.control.station ≠ .fault)
    {keeps : Bool} {body : List Byte → State → Reply × State} {reply : Reply} {window : Option HistoryWindow}
    (answer : body params (s.between (if keeps then s.port.window else none)) = (reply, s.between window)) :
    s.powered (clockIn code params keeps fun p => gated false (body p)) =
      s.answering (code :: params) (statusCode reply.status :: reply.data) reply.shifting window := by
  rw [State.powered_high h.1, clockIn_whole h whole, takeCommand_open test fault, takeCommand_eq, answer]
  rfl

/-! ### TAKE_RESULTS and TAKE_RUNS -/

theorem answerTakeResults_of_empty (n : Byte) {s : State} (empty : s.results.fifo = []) :
    answerTakeResults n s = (bare .empty, s) := if_pos (by rw [empty]; rfl)

theorem answerTakeResults_of_held (n : Byte) {s : State} (held : s.results.fifo ≠ []) :
    answerTakeResults n s =
      (let c := min (countParam n) s.results.fifo.length
       ({ status := .ok, data := u8 c :: (s.results.fifo.take c).flatMap (recordBytes s.cfg.station),
          shifting := .records c }, s)) := if_neg (by simpa using held)

theorem answerTakeRuns_of_empty (n : Byte) {s : State} (empty : s.tracker.queue = []) :
    answerTakeRuns n s = (bare .empty, s) := if_pos (by rw [empty]; rfl)

theorem answerTakeRuns_of_held (n : Byte) {s : State} (held : s.tracker.queue ≠ []) :
    answerTakeRuns n s =
      (let c := min (countParam n) s.tracker.queue.length
       ({ status := .ok, data := u8 c :: (s.tracker.queue.take c).flatMap (runBytes s.cfg.station),
          shifting := .runs c }, s)) := if_neg (by simpa using held)

/-- TAKE_RESULTS is taken whole, and keeps no window. -/
theorem exec_takeResults {s : State} (takes : s.takesTransactions) (test : s.control.station ≠ .selfTest)
    (fault : s.control.station ≠ .fault) {n : Byte} {reply : Reply}
    (answer : answerTakeResults n (s.between none) = (reply, s.between none)) :
    exec (.takeResults [n]) s =
      .next (s.answering [32, n] (statusCode reply.status :: reply.data) reply.shifting none) :=
  congrArg Host.Outcome.next (takes.answers (params := [n]) rfl test fault answer)

/-- TAKE_RUNS is taken whole, and keeps no window. -/
theorem exec_takeRuns {s : State} (takes : s.takesTransactions) (test : s.control.station ≠ .selfTest)
    (fault : s.control.station ≠ .fault) {n : Byte} {reply : Reply}
    (answer : answerTakeRuns n (s.between none) = (reply, s.between none)) :
    exec (.takeRuns [n]) s =
      .next (s.answering [33, n] (statusCode reply.status :: reply.data) reply.shifting none) :=
  congrArg Host.Outcome.next (takes.answers (params := [n]) rfl test fault answer)

/-- Settles O49: each command answers by what its store holds. -/
theorem takingSendsTheOldestFirst : Obligations.TakingSendsTheOldestFirst := by
  intro n s takes test fault c
  refine ⟨fun empty => ?_, fun held => ?_, fun empty => ?_, fun held => ?_⟩
  · exact (exec_takeResults takes test fault (answerTakeResults_of_empty n empty)).trans rfl
  · exact (exec_takeResults takes test fault (answerTakeResults_of_held n held)).trans rfl
  · exact (exec_takeRuns takes test fault (answerTakeRuns_of_empty n empty)).trans rfl
  · exact (exec_takeRuns takes test fault (answerTakeRuns_of_held n held)).trans rfl

/-! ### Records and runs that leave -/

theorem State.recordOut_eq {t : Transaction} {left : Nat} {s : State} (held : s.port.transaction = some t)
    (shifting : t.shifting = .records (left + 1)) :
    s.recordOut = { s with
      results := { s.results with fifo := s.results.fifo.tail }
      port := { s.port with
        selected := true
        transaction := some { t with shifted := t.response.length - 40 * left, shifting := .records left } } } := by
  simp only [State.recordOut, held, shifting, List.drop_one]
  rfl

theorem State.runOut_eq {t : Transaction} {left : Nat} {s : State} (held : s.port.transaction = some t)
    (shifting : t.shifting = .runs (left + 1)) :
    s.runOut = { s with
      tracker := { s.tracker with queue := s.tracker.queue.tail }
      port := { s.port with
        selected := true
        transaction := some { t with shifted := t.response.length - 28 * left, shifting := .runs left } } } := by
  simp only [State.runOut, held, shifting, List.drop_one]
  rfl

/-- The runs held are those the transaction has left (R150). -/
theorem State.heldRuns_eq {t : Transaction} {left : Nat} {s : State} (held : s.port.transaction = some t)
    (shifting : t.shifting = .runs left) : s.heldRuns = left := by
  obtain ⟨_, _, _, _⟩ := t
  cases shifting
  rw [State.heldRuns, held]

/-! ### RDO -/

/-- A transaction with RSEL and RESETN in their levels puts its bytes on RDO, each most significant bit first (R195). -/
theorem State.rdo_eq {s : State} {t : Transaction} (high : s.resetn = true) (selected : s.port.selected = true)
    (held : s.port.transaction = some t) {k j : Nat} (bit : j < 8) {byte : Byte} (h : t.rdoByte k = some byte) :
    s.rdo (8 * k + j) = some (byte.getMsbD j) := by
  have quotient : (8 * k + j) / 8 = k := by omega
  have remainder : (8 * k + j) % 8 = j := by omega
  simp only [State.rdo, high, selected, held, quotient, remainder, h, Bool.and_self, if_true]

theorem State.rdo_zero {s : State} {t : Transaction} (high : s.resetn = true) (selected : s.port.selected = true)
    (held : s.port.transaction = some t) {k j : Nat} (bit : j < 8) (h : t.rdoByte k = some 0) :
    s.rdo (8 * k + j) = some false := by
  simp [State.rdo_eq high selected held bit h]

/-- While RSEL is high RDO is not driven (R195). -/
theorem State.rdo_unselected {s : State} (h : s.port.selected = false) (k : Nat) : s.rdo k = none := by
  simp [State.rdo, h]

/-- Zeros while the bytes of the command come in (R196). -/
theorem Transaction.rdoByte_command {t : Transaction} {k : Nat}
    (h : k < t.received.length ∨ t.response = [] ∧ k ≤ paramCount (t.received.headD 0)) : t.rdoByte k = some 0 := if_pos h

/-- Then the response as far as it is determined (R196, R203). -/
theorem Transaction.rdoByte_response {t : Transaction} {i : Nat} {byte : Byte} (h : t.response[i]? = some byte) :
    t.rdoByte (t.received.length + i) = some byte := by
  have answered : t.response ≠ [] := fun e => by simp [e] at h
  rw [Transaction.rdoByte, if_neg (by simp [answered]), Nat.add_sub_cancel_left, h]

/-- An answered command whose entries have all been looked up has its response determined (R203). -/
theorem Transaction.determined_of_answered {t : Transaction} (answered : t.response ≠ [])
    (lookedUp : ∀ left b, t.shifting = .entries left b → left ≤ b.toNat) : t.determined = true := by
  rw [Transaction.determined, Bool.and_eq_true]
  refine ⟨by simpa using answered, ?_⟩
  cases e : t.shifting with
  | entries left b => exact decide_eq_true (lookedUp left b e)
  | plain | records | runs => rfl

/-- Zeros after the end of a response that is determined (R196). -/
theorem Transaction.rdoByte_after {t : Transaction} {k : Nat} (determined : t.determined = true)
    (answered : t.response ≠ []) (past : t.received.length + t.response.length ≤ k) : t.rdoByte k = some 0 := by
  have beyond : t.response[k - t.received.length]? = none := List.getElem?_eq_none (by omega)
  rw [Transaction.rdoByte, if_neg (by simp [answered]; omega), beyond]
  exact if_pos determined

/-! ### RDI -/

/-- The eight bits of a byte, most significant first, make it. -/
theorem ofBoolListBE_bits (b : Byte) :
    BitVec.ofBoolListBE [b.getMsbD 0, b.getMsbD 1, b.getMsbD 2, b.getMsbD 3, b.getMsbD 4, b.getMsbD 5, b.getMsbD 6,
      b.getMsbD 7] = b := by
  refine BitVec.eq_of_getMsbD_eq fun i hi => ?_
  rw [BitVec.getMsbD_ofBoolListBE]
  change i < 8 at hi
  interval_cases i <;> rfl

/-- Fewer than eight bits make no byte (R195). -/
theorem rdiBytes_short {bits : List Bool} (short : bits.length < 8) : rdiBytes bits = [] := by
  rw [rdiBytes]
  rintro b7 b6 b5 b4 b3 b2 b1 b0 rest rfl
  simp only [List.length_cons] at short
  omega

/-- Eight bits make a byte before the bytes of the bits behind them (R195). -/
theorem rdiBytes_byte (b : Byte) (rest : List Bool) :
    rdiBytes ((List.range 8).map b.getMsbD ++ rest) = b :: rdiBytes rest :=
  congrArg (· :: rdiBytes rest) (ofBoolListBE_bits b)

theorem rdiBytes_bytes (bytes : List Byte) {rest : List Bool} (short : rest.length < 8) :
    rdiBytes (bytes.flatMap (fun b => (List.range 8).map b.getMsbD) ++ rest) = bytes := by
  induction bytes with
  | nil => exact rdiBytes_short short
  | cons b bytes ih => rw [List.flatMap_cons, List.append_assoc, rdiBytes_byte, ih]

/-- Settles O50: the head leaves its store, DESELECT leaves the port without transaction, and RDO and RDI byte by byte. -/
theorem transactionProgressAndEnd : Obligations.TransactionProgressAndEnd := by
  refine ⟨fun t left s high held => ⟨fun shifting => ?_, fun shifting => ⟨s.heldRuns_eq held shifting, ?_⟩⟩,
    fun s high => ⟨?_, rfl, State.rdo_unselected, fun t selected held k j bit => ⟨fun before => ?_, fun waiting within => ?_,
      fun i byte answered place => ?_, fun answered lookedUp past => ?_⟩⟩,
    fun bytes rest short => rdiBytes_bytes bytes short⟩
  · exact congrArg Host.Outcome.next ((State.powered_high high _).trans (State.recordOut_eq held shifting))
  · exact congrArg Host.Outcome.next ((State.powered_high high _).trans (State.runOut_eq held shifting))
  · exact congrArg Host.Outcome.next (State.powered_high high _)
  · exact State.rdo_zero high selected held bit (Transaction.rdoByte_command (.inl before))
  · exact State.rdo_zero high selected held bit (Transaction.rdoByte_command (.inr ⟨waiting, within⟩))
  · exact State.rdo_eq high selected held bit (place ▸ Transaction.rdoByte_response answered)
  · exact State.rdo_zero high selected held bit
      (Transaction.rdoByte_after (Transaction.determined_of_answered answered lookedUp) answered past)

end Sys2Proof.Machine
end

section
/-! The history window: how it is opened and read, and how its entries are looked up and shifted out (R123, R201, R203,
R204). -/

namespace Sys2Proof.Machine

/-! ### HISTORY_WINDOW -/

theorem answerHistoryWindow_of_armed {s : State} (armed : s.armed = true) (first last : Int) :
    answerHistoryWindow first last s =
      (bare .ok, { s with port := { s.port with window := some (openedWindow first last) } }) := if_pos armed

theorem answerHistoryWindow_of_idle {s : State} (idle : s.armed = false) (first last : Int) :
    answerHistoryWindow first last s = (bare .wrongState, s) := if_neg (by simp [idle])

/-- A start greater than the end opens a window over the start alone (R201). -/
theorem openedWindow_eq (first last : Int) :
    openedWindow first last = { first, last := if last < first then first else last, cursor := first } := by
  rw [openedWindow, max_comm, max_def_lt]

/-- HISTORY_WINDOW is taken whole and answered with the window of before in place; its parameters are two track posts in
two's complement, the high byte first (R201; log 27). -/
theorem exec_historyWindow {s : State} (takes : s.takesTransactions) (test : s.control.station ≠ .selfTest)
    (fault : s.control.station ≠ .fault) {a3 a2 a1 a0 b3 b2 b1 b0 : Byte} {reply : Reply} {window : Option HistoryWindow}
    (answer : answerHistoryWindow (a3 ++ a2 ++ a1 ++ a0).toInt (b3 ++ b2 ++ b1 ++ b0).toInt (s.between s.port.window) =
      (reply, s.between window)) :
    exec (.historyWindow [a3, a2, a1, a0] [b3, b2, b1, b0]) s =
      .next (s.answering (64 :: ([a3, a2, a1, a0] ++ [b3, b2, b1, b0])) (statusCode reply.status :: reply.data)
        reply.shifting window) :=
  congrArg Host.Outcome.next
    (takes.answers (params := [a3, a2, a1, a0] ++ [b3, b2, b1, b0]) (keeps := true) rfl test fault answer)

/-! ### HISTORY_READ -/

theorem answerHistoryRead_of_closed (n : Byte) {s : State} (closed : s.port.window = none) :
    answerHistoryRead n s = (bare .wrongState, s) := by rw [answerHistoryRead, closed]

theorem answerHistoryRead_of_past (n : Byte) {s : State} {w : HistoryWindow} (opened : s.port.window = some w)
    (past : w.last < w.cursor) : answerHistoryRead n s = (bare .ended, s) := by
  simp only [answerHistoryRead, opened, if_pos past]

theorem answerHistoryRead_of_left (n : Byte) {s : State} {w : HistoryWindow} (opened : s.port.window = some w)
    (left : w.cursor ≤ w.last) :
    answerHistoryRead n s =
      (let c := min (countParam n) (w.last - w.cursor + 1).toNat
       ({ status := .ok, data := [u8 c], shifting := .entries c false }, s)) := by
  simp only [answerHistoryRead, opened, if_neg (Int.not_lt.2 left)]

/-- HISTORY_READ is taken whole and keeps the window. -/
theorem exec_historyRead {s : State} (takes : s.takesTransactions) (test : s.control.station ≠ .selfTest)
    (fault : s.control.station ≠ .fault) {n : Byte} {reply : Reply}
    (answer : answerHistoryRead n (s.between s.port.window) = (reply, s.between s.port.window)) :
    exec (.historyRead [n]) s =
      .next (s.answering [65, n] (statusCode reply.status :: reply.data) reply.shifting s.port.window) :=
  congrArg Host.Outcome.next (takes.answers (params := [n]) (keeps := true) rfl test fault answer)

/-! ### The entries -/

/-- The station while transaction `t` goes on: `bytes` more of the response are determined, and `left` entries are left. -/
def State.reading (t : Transaction) (w : HistoryWindow) (bytes : List Byte) (lookedUp : Bool) (left : Nat) (s : State) :
    State :=
  { s with port :=
    { selected := true, window := some w,
      transaction := some { received := t.received, response := t.response ++ bytes, shifted := t.response.length,
                            shifting := .entries left lookedUp } } }

section Entries

variable {s : State} {t : Transaction} {w : HistoryWindow} {left : Nat} (high : s.resetn = true)
  (held : s.port.transaction = some t) (opened : s.port.window = some w)
include high held opened

/-- A lookup fixes the bytes of the entry for the cursor's post as the ring is now (R203). -/
theorem exec_historyEntryLookup (shifting : t.shifting = .entries (left + 1) false) :
    exec .historyEntryLookup s = .next (s.reading t w (entryBytes s w.cursor) true (left + 1)) := by
  refine congrArg Host.Outcome.next ((State.powered_high high _).trans ?_)
  simp only [State.lookUpEntry, State.setShifting, State.withTransaction, State.reading, held, opened, shifting]

/-- An entry shifted out moves the cursor to the next track post (R203, R204). -/
theorem exec_historyEntryShiftedOut (shifting : t.shifting = .entries (left + 1) true) :
    exec .historyEntryShiftedOut s = .next (s.reading t { w with cursor := w.cursor + 1 } [] false left) := by
  refine congrArg Host.Outcome.next ((State.powered_high high _).trans ?_)
  simp only [State.entryOut, State.setShifting, State.withTransaction, State.reading, held, opened, shifting,
    List.append_nil]

end Entries

theorem entryBytes_of_mem {s : State} {g : GeometryRecord} (held : g ∈ s.ring)
    (ascending : s.ring.Pairwise fun x y => x.trackPost < y.trackPost) :
    entryBytes s g.trackPost = 1 :: recordBytes s.cfg.station g := by
  rw [entryBytes, trackLookup_of_mem held ascending]

theorem entryBytes_of_absent {s : State} {post : Int} (absent : ∀ g ∈ s.ring, g.trackPost ≠ post) :
    entryBytes s post = 2 :: s32 post := by
  rw [entryBytes, trackLookup_of_absent absent]

/-- Settles O51: the two commands answer by station state, window and cursor; a lookup by what the ring holds. -/
theorem historyIsReadThroughTheWindow : Obligations.HistoryIsReadThroughTheWindow := by
  constructor
  · intro a3 a2 a1 a0 b3 b2 b1 b0 n s takes test fault start stop first last
    refine ⟨fun armed => ?_, fun idle => ?_, fun closed => ?_, fun w opened => ⟨fun past => ?_, fun left => ?_⟩⟩
    · rw [← openedWindow_eq]
      exact exec_historyWindow takes test fault (reply := bare .ok)
        (answerHistoryWindow_of_armed (s := s.between s.port.window) (s.armed_iff.2 armed) first last)
    · have unarmed : s.armed = false := by rcases idle with e | e <;> simp [State.armed, e]
      exact exec_historyWindow takes test fault (reply := bare .wrongState)
        (answerHistoryWindow_of_idle (s := s.between s.port.window) unarmed first last)
    · exact (exec_historyRead takes test fault (answerHistoryRead_of_closed n closed)).trans (by rw [closed]; rfl)
    · exact (exec_historyRead takes test fault (answerHistoryRead_of_past n opened past)).trans (by rw [opened]; rfl)
    · exact (exec_historyRead takes test fault (answerHistoryRead_of_left n opened left)).trans (by rw [opened]; rfl)
  · intro t w left s high held opened sent
    refine ⟨fun shifting => ⟨fun g mem post ascending => ?_, fun absent => ?_⟩, fun shifting => ?_⟩
    · rw [exec_historyEntryLookup high held opened shifting, ← post, entryBytes_of_mem mem ascending]
      rfl
    · rw [exec_historyEntryLookup high held opened shifting, entryBytes_of_absent absent]
      rfl
    · exact exec_historyEntryShiftedOut high held opened shifting

end Sys2Proof.Machine
end

section
/-! The wire forms of geometry records and runs: what a field of a byte sequence reads as, and which field stands at which
bytes (R112, R145). -/

namespace Sys2Proof.Machine

/-! ### Fields of a byte sequence -/

/-- One byte that stands at byte `i`. -/
theorem fieldAt_byte {b : List Byte} {i : Nat} {x : Byte} (h : (b.drop i).take 1 = [x]) : fieldAt b i 1 = x.toNat := by
  rw [fieldAt, h, beNat, List.foldl_cons, List.foldl_nil, Nat.mul_zero, Nat.zero_add]

/-- A field of sixteen bits that stands at byte `i`. -/
theorem fieldAt_be16 {b : List Byte} {i : Nat} {x : Half} (h : (b.drop i).take 2 = be16 x) : fieldAt b i 2 = x.toNat := by
  rw [fieldAt, h]
  simp only [beNat, be16, List.foldl_cons, List.foldl_nil, BitVec.extractLsb'_toNat]
  omega

/-- A field of thirty-two bits that stands at byte `i`. -/
theorem fieldAt_be32 {b : List Byte} {i : Nat} {x : Word} (h : (b.drop i).take 4 = be32 x) : fieldAt b i 4 = x.toNat := by
  rw [fieldAt, h]
  simp only [beNat, be32, List.foldl_cons, List.foldl_nil, BitVec.extractLsb'_toNat]
  omega

/-- Bits before other bits, as numbers. -/
theorem append_toNat {v w : Nat} (x : BitVec v) (y : BitVec w) : (x ++ y).toNat = 2 ^ w * x.toNat + y.toNat := by
  rw [BitVec.toNat_append, ← Nat.shiftLeft_add_eq_or_of_lt y.isLt, Nat.shiftLeft_eq, Nat.mul_comm]

/-- Two bytes that stand at byte `i`, as one field. -/
theorem fieldAt_pair {b : List Byte} {i : Nat} {x y : Byte} (h : (b.drop i).take 2 = [x, y]) :
    fieldAt b i 2 = (x ++ y).toNat := by
  rw [fieldAt, h, append_toNat]
  simp [beNat]

/-- Four bytes that stand at byte `i`, as one field. -/
theorem fieldAt_quad {b : List Byte} {i : Nat} {w x y z : Byte} (h : (b.drop i).take 4 = [w, x, y, z]) :
    fieldAt b i 4 = (w ++ x ++ y ++ z).toNat := by
  rw [fieldAt, h, append_toNat, append_toNat, append_toNat]
  simp [beNat]

theorem ofInt32_toNat (x : Int) : ((BitVec.ofInt 32 x).toNat : Int) = x % 4294967296 := by
  rw [BitVec.toNat_ofInt]
  exact Int.toNat_of_nonneg (Int.emod_nonneg x (by decide))

theorem u8_station (station : Fin 8) : (u8 station).toNat = station.val :=
  Nat.mod_eq_of_lt (Nat.lt_of_lt_of_le station.isLt (by decide))

/-! ### The record -/

theorem valueBytes_eq (v : Option Value) : valueBytes v = be16 (valueField v) := by cases v <;> rfl

/-- The eight optional values of a record in the order of their fields (R112). -/
def GeometryRecord.values (g : GeometryRecord) : List (Option Value) :=
  [g.gdev, g.cant, g.chords[0], g.chords[1], g.chords[2], g.chords[3], g.twists[0], g.twists[1]]

theorem GeometryRecord.values_cases {g : GeometryRecord} {i : Nat} {v : Option Value} (h : g.values[i]? = some v) :
    (i = 0 ∧ v = g.gdev) ∨ (i = 1 ∧ v = g.cant) ∨ (i = 2 ∧ v = g.chords[0]) ∨ (i = 3 ∧ v = g.chords[1]) ∨
    (i = 4 ∧ v = g.chords[2]) ∨ (i = 5 ∧ v = g.chords[3]) ∨ (i = 6 ∧ v = g.twists[0]) ∨ (i = 7 ∧ v = g.twists[1]) := by
  match i, h with
  | 0, rfl | 1, rfl | 2, rfl | 3, rfl | 4, rfl | 5, rfl | 6, rfl | 7, rfl => simp

theorem recordBody_length (station : Fin 8) (g : GeometryRecord) : (recordBody station g).length = 38 := by
  simp only [recordBody, valueBytes_eq, List.length_append]
  rfl

/-- The bytes of a record, every field of fixed width (R112). -/
theorem recordBytes_eq (station : Fin 8) (g : GeometryRecord) :
    recordBytes station g =
      u32 g.carPost ++ s32 g.trackPost ++ u16 g.skippedBefore ++ [u8 g.lostBefore, originCode g.origin, g.missing,
        u8 station] ++ presenceMask g ++ u16 (g.speed.getD 0) ++ g.values.flatMap (fun v => be16 (valueField v)) ++
        [flagByte g.gdev g.cant, flagByte g.chords[0] g.chords[1], flagByte g.chords[2] g.chords[3],
         flagByte g.twists[0] g.twists[1]] ++ be16 (crcBytes (recordBody station g)) := by
  simp only [recordBytes, withCheck, recordBody, valueBytes_eq, GeometryRecord.values, List.flatMap_cons,
    List.flatMap_nil, List.append_assoc, List.append_nil]

/-- The fields of a record that are always present, at their bytes (R112). -/
theorem record_by_position (station : Fin 8) (g : GeometryRecord) : let b := recordBytes station g
    b.length = 40 ∧ fieldAt b 0 4 = (BitVec.ofNat 32 g.carPost).toNat ∧
    fieldAt b 4 4 = (BitVec.ofInt 32 g.trackPost).toNat ∧ fieldAt b 8 2 = (BitVec.ofNat 16 g.skippedBefore).toNat ∧
    fieldAt b 10 1 = (u8 g.lostBefore).toNat ∧ fieldAt b 11 1 = (originCode g.origin).toNat ∧
    fieldAt b 12 1 = g.missing.toNat ∧ fieldAt b 13 1 = (u8 station).toNat ∧
    fieldAt b 16 2 = (BitVec.ofNat 16 (g.speed.getD 0)).toNat ∧ fieldAt b 38 2 = (crcBytes (b.take 38)).toNat := by
  intro b
  have bytes : b = _ := recordBytes_eq station g
  have body : b.take 38 = recordBody station g := List.take_left' (recordBody_length station g)
  rw [body, bytes]
  exact ⟨rfl, fieldAt_be32 rfl, fieldAt_be32 rfl, fieldAt_be16 rfl, fieldAt_byte rfl, fieldAt_byte rfl, fieldAt_byte rfl,
    fieldAt_byte rfl, fieldAt_be16 rfl, fieldAt_be16 rfl⟩

/-- The field of each value, absent or present, at its two bytes (R112). -/
theorem recordBytes_value (station : Fin 8) (g : GeometryRecord) {i : Nat} {v : Option Value}
    (held : g.values[i]? = some v) : fieldAt (recordBytes station g) (18 + 2 * i) 2 = (valueField v).toNat := by
  rw [recordBytes_eq]
  obtain ⟨rfl, rfl⟩ | ⟨rfl, rfl⟩ | ⟨rfl, rfl⟩ | ⟨rfl, rfl⟩ | ⟨rfl, rfl⟩ | ⟨rfl, rfl⟩ | ⟨rfl, rfl⟩ | ⟨rfl, rfl⟩ :=
    GeometryRecord.values_cases held <;> exact fieldAt_be16 rfl

/-- The presence mask as a field of sixteen bits (R112). -/
theorem recordBytes_presence (station : Fin 8) (g : GeometryRecord) :
    fieldAt (recordBytes station g) 14 2 =
      (byteOf g.twists[1].isSome false false false false false false false ++
        byteOf g.speed.isSome g.gdev.isSome g.cant.isSome g.chords[0].isSome g.chords[1].isSome g.chords[2].isSome
          g.chords[3].isSome g.twists[0].isSome).toNat := by
  rw [recordBytes_eq]
  exact fieldAt_pair rfl

theorem byteOf_getLsbD (b0 b1 b2 b3 b4 b5 b6 b7 : Bool) (i : Nat) :
    (byteOf b0 b1 b2 b3 b4 b5 b6 b7).getLsbD i = [b0, b1, b2, b3, b4, b5, b6, b7].getD i false :=
  BitVec.getLsbD_ofBoolListLE ..

/-- Bit 0 of the presence mask tells the speed, and no bit stands above bit 8 (R112). -/
theorem presence_speed (station : Fin 8) (g : GeometryRecord) :
    (fieldAt (recordBytes station g) 14 2).testBit 0 = g.speed.isSome ∧ fieldAt (recordBytes station g) 14 2 < 512 := by
  rw [recordBytes_presence]
  refine ⟨?_, ?_⟩
  · rw [BitVec.testBit_toNat, BitVec.getLsbD_append, byteOf_getLsbD]
    rfl
  · have high : ∀ x : Bool, (byteOf x false false false false false false false).toNat ≤ 1 := by decide
    have low := (byteOf g.speed.isSome g.gdev.isSome g.cant.isSome g.chords[0].isSome g.chords[1].isSome g.chords[2].isSome
      g.chords[3].isSome g.twists[0].isSome).isLt
    have := high g.twists[1].isSome
    rw [append_toNat]
    omega

/-- The other bits of the presence mask tell the values in their order (R112). -/
theorem presence_value (station : Fin 8) (g : GeometryRecord) {i : Nat} {v : Option Value} (held : g.values[i]? = some v) :
    (fieldAt (recordBytes station g) 14 2).testBit (i + 1) = v.isSome := by
  rw [recordBytes_presence, BitVec.testBit_toNat, BitVec.getLsbD_append, byteOf_getLsbD, byteOf_getLsbD]
  obtain ⟨rfl, rfl⟩ | ⟨rfl, rfl⟩ | ⟨rfl, rfl⟩ | ⟨rfl, rfl⟩ | ⟨rfl, rfl⟩ | ⟨rfl, rfl⟩ | ⟨rfl, rfl⟩ | ⟨rfl, rfl⟩ :=
    GeometryRecord.values_cases held <;> rfl

/-- The four flag bits of each value, the first value in the highest (R112). -/
theorem flags_value (station : Fin 8) (g : GeometryRecord) {i : Nat} {v : Option Value} (held : g.values[i]? = some v)
    {k : Nat} (lt : k < 4) :
    (fieldAt (recordBytes station g) 34 4).testBit (28 - 4 * i + k) = (flagGroup v).getLsbD k := by
  have word : fieldAt (recordBytes station g) 34 4 = (flagByte g.gdev g.cant ++ flagByte g.chords[0] g.chords[1] ++
      flagByte g.chords[2] g.chords[3] ++ flagByte g.twists[0] g.twists[1]).toNat := by
    rw [recordBytes_eq]
    exact fieldAt_quad rfl
  rw [word, BitVec.testBit_toNat]
  simp only [flagByte, BitVec.getLsbD_append]
  obtain ⟨rfl, rfl⟩ | ⟨rfl, rfl⟩ | ⟨rfl, rfl⟩ | ⟨rfl, rfl⟩ | ⟨rfl, rfl⟩ | ⟨rfl, rfl⟩ | ⟨rfl, rfl⟩ | ⟨rfl, rfl⟩ :=
    GeometryRecord.values_cases held <;> interval_cases k <;> rfl

/-- The flag group of a present value: HELD, CLIPPED, CLAMPED from bit 3 down, and bit 0 clear (R112). -/
theorem flagGroup_some (x : Value) : (flagGroup (some x)).getLsbD 3 = x.flags.held ∧
    (flagGroup (some x)).getLsbD 2 = x.flags.clipped ∧ (flagGroup (some x)).getLsbD 1 = x.flags.clamped ∧
    (flagGroup (some x)).getLsbD 0 = false :=
  ⟨BitVec.getLsbD_ofBoolListLE .., BitVec.getLsbD_ofBoolListLE .., BitVec.getLsbD_ofBoolListLE ..,
    BitVec.getLsbD_ofBoolListLE ..⟩

/-! ### The run -/

/-- The fields of a run at their bytes (R145). -/
theorem run_by_position (station : Fin 8) (r : RunRecord) : let b := runBytes station r
    b.length = 28 ∧ fieldAt b 0 2 = r.sequence.toNat ∧ fieldAt b 2 1 = (u8 r.measure).toNat ∧
    fieldAt b 3 1 = (u8 r.cls).toNat ∧ fieldAt b 4 1 = (if r.negative then 1 else 0 : Byte).toNat ∧
    fieldAt b 5 1 = (causeCode r.cause).toNat ∧ fieldAt b 6 1 = (if r.hadMissing then 1 else 0 : Byte).toNat ∧
    fieldAt b 7 1 = (outcomeCode r.left ++ outcomeCode r.right).toNat ∧
    fieldAt b 8 4 = (BitVec.ofInt 32 r.start).toNat ∧ fieldAt b 12 4 = (BitVec.ofInt 32 r.last).toNat ∧
    fieldAt b 16 4 = (BitVec.ofInt 32 r.peakPost).toNat ∧ fieldAt b 20 2 = (BitVec.ofNat 16 r.length).toNat ∧
    fieldAt b 22 2 = (BitVec.ofNat 16 r.peak).toNat ∧ fieldAt b 24 1 = (u8 station).toNat ∧ fieldAt b 25 1 = (0#8).toNat ∧
    fieldAt b 26 2 = (crcBytes (b.take 26)).toNat :=
  ⟨rfl, fieldAt_be16 rfl, fieldAt_byte rfl, fieldAt_byte rfl, fieldAt_byte rfl, fieldAt_byte rfl, fieldAt_byte rfl,
    fieldAt_byte rfl, fieldAt_be32 rfl, fieldAt_be32 rfl, fieldAt_be32 rfl, fieldAt_be16 rfl, fieldAt_be16 rfl,
    fieldAt_byte rfl, fieldAt_byte rfl, fieldAt_be16 rfl⟩

theorem originCode_toNat (origin : Origin) : (originCode origin).toNat = if origin = .latched then 0 else 1 := by
  cases origin <;> rfl

/-- Settles O28: each field of a record and of a run stands at its bytes, and the values of a record go by their place. -/
theorem wireFormsHaveTheirFields : Obligations.WireFormsHaveTheirFields := by
  constructor
  · intro station g b values
    obtain ⟨length, carPost, trackPost, skipped, lost, origin, missing, number, speed, check⟩ := record_by_position station g
    obtain ⟨speedBit, nine⟩ := presence_speed station g
    refine ⟨length, carPost.trans (BitVec.toNat_ofNat ..), ?_, skipped.trans (BitVec.toNat_ofNat ..),
      lost.trans (BitVec.toNat_ofNat ..), origin.trans (originCode_toNat _), missing, number.trans (u8_station _), speedBit,
      nine, speed.trans (BitVec.toNat_ofNat ..), fun i v held => ⟨presence_value station g held, ?_, ?_⟩, check⟩
    · exact (congrArg Nat.cast trackPost).trans (ofInt32_toNat _)
    · rintro rfl
      refine ⟨recordBytes_value station g held, fun k lt => ?_⟩
      exact (flags_value station g held lt).trans BitVec.getLsbD_zero
    · rintro x rfl
      have last : i < 8 := (List.getElem?_eq_some_iff.1 held).1
      obtain ⟨isHeld, isClipped, isClamped, clear⟩ := flagGroup_some x
      have bit : ∀ k, k < 4 → (fieldAt b 34 4).testBit (28 - 4 * i + k) = (flagGroup (some x)).getLsbD k := fun k lt =>
        flags_value station g held lt
      refine ⟨(congrArg Nat.cast (recordBytes_value station g held)).trans (valueField_toNat x), ?_, ?_, ?_, ?_⟩
      · rw [show 31 - 4 * i = 28 - 4 * i + 3 by omega, bit 3 (by decide), isHeld]
      · rw [show 30 - 4 * i = 28 - 4 * i + 2 by omega, bit 2 (by decide), isClipped]
      · rw [show 29 - 4 * i = 28 - 4 * i + 1 by omega, bit 1 (by decide), isClamped]
      · rw [← Nat.add_zero (28 - 4 * i), bit 0 (by decide), clear]
  · intro station r b outcome
    obtain ⟨length, sequence, measure, cls, negative, cause, hadMissing, outcomes, start, last, peakPost, long, peak, number,
      reserved, check⟩ := run_by_position station r
    refine ⟨length, sequence, measure.trans (BitVec.toNat_ofNat ..), cls.trans (BitVec.toNat_ofNat ..), negative.trans ?_,
      cause.trans ?_, hadMissing.trans ?_, outcomes.trans ?_, ?_, ?_, ?_, long.trans (BitVec.toNat_ofNat ..),
      peak.trans (BitVec.toNat_ofNat ..), number.trans (u8_station _), reserved, check⟩
    · cases r.negative <;> rfl
    · cases r.cause <;> rfl
    · cases r.hadMissing <;> rfl
    · have code : ∀ x, (outcomeCode x).toNat = outcome x := fun x => by cases x <;> rfl
      rw [append_toNat, code, code]
      rfl
    · exact (congrArg Nat.cast start).trans (ofInt32_toNat _)
    · exact (congrArg Nat.cast last).trans (ofInt32_toNat _)
    · exact (congrArg Nat.cast peakPost).trans (ofInt32_toNat _)

end Sys2Proof.Machine
end

section
/-! The rules of the Exceedance Tracker and the Run Queue: how a post is judged (R129, R130), which nozzles a run asks (R142,
R143, R154), what a close, an offer, an exceeding post and the gap count make of a run (R132 to R139, R144, R146, R150), and
from these the statements on each. -/

namespace Sys2Proof.Machine

/-! ### A post and its deviation -/

theorem deviation_of_absent {m : TrackedMeasure} {g : GeometryRecord} (absent : measuredValue m.measure g = none) :
    deviation m g = none := by
  rw [deviation, absent]

theorem deviation_of_present {m : TrackedMeasure} {g : GeometryRecord} {v : Value}
    (present : measuredValue m.measure g = some v) :
    deviation m g = if v.flags.held = true then none else some (v.dc - m.nominal) := by
  rw [deviation, present]

theorem exceeding_iff {m : TrackedMeasure} (d : Int) :
    exceeding m d = true ↔ (m.l1 : Int) - m.h < d.natAbs := decide_eq_true_iff

/-- The post class by the limits, in whatever order these are: the first that is passed, from above, decides. -/
theorem postClass_cases (m : TrackedMeasure) (d : Int) :
    (m.l3 < d.natAbs ∧ postClass m d = 3) ∨ (d.natAbs ≤ m.l3 ∧ m.l2 < d.natAbs ∧ postClass m d = 2) ∨
      (d.natAbs ≤ m.l3 ∧ d.natAbs ≤ m.l2 ∧ m.l1 < d.natAbs ∧ postClass m d = 1) ∨
      (d.natAbs ≤ m.l3 ∧ d.natAbs ≤ m.l2 ∧ d.natAbs ≤ m.l1 ∧ postClass m d = 0) := by
  simp only [postClass]
  split_ifs <;> omega

/-- Settles O30: an absent or HELD value is no data, and the limits are passed in ascending order. -/
theorem postIsJudgedByItsDeviation : Obligations.PostIsJudgedByItsDeviation := by
  intro m g l12 l23 hl value
  refine ⟨deviation_of_absent, fun v present => ?_⟩
  have judged : deviation m g = _ := deviation_of_present present
  refine ⟨fun held => judged.trans (if_pos held), fun fresh => judged.trans (if_neg (by simp [fresh])), fun d => ?_⟩
  rw [exceeding_iff]
  obtain ⟨_, class_eq⟩ | ⟨_, _, class_eq⟩ | ⟨_, _, _, class_eq⟩ | ⟨_, _, _, class_eq⟩ := postClass_cases m d <;>
    rw [class_eq] <;> omega

/-! ### Which nozzles a run asks -/

/-- A START-anchored nozzle is due when it is fitted, serves the measure and is reached by the rise of class. -/
theorem startDue_eq (c : StationConfig) (i : Fin 8) (before now : Nat) (x : Nozzle) :
    startDue c i before now x = (c.nozzle x).any fun n =>
      n.anchor == .start && n.mask.getLsbD i && decide (before < n.minClass) && decide (n.minClass ≤ now) := by
  cases fitted : c.nozzle x with
  | none => simp [startDue, serves, fitted]
  | some n => simp [startDue, serves, minClass, fitted, inSet]

/-- A PEAK-anchored nozzle is due when it is fitted, serves the measure and is reached by the run's class. -/
theorem peakDue_eq (c : StationConfig) (i : Fin 8) (cls : Nat) (x : Nozzle) :
    peakDue c i cls x = (c.nozzle x).any fun n =>
      n.anchor == .peak && n.mask.getLsbD i && decide (n.minClass ≤ cls) := by
  cases fitted : c.nozzle x with
  | none => simp [peakDue, serves, fitted]
  | some n => simp [peakDue, serves, minClass, fitted, inSet]

theorem peakRequests_forced (e : TrackEnv) (i : Fin 8) (p : OpenRun × Tracks) : peakRequests e i .forced p = p := rfl

/-- Settles O36: a nozzle that is not fitted is never due, and the answer is written where the nozzle's outcome stands. -/
theorem runAsksItsNozzlesAtTheAnchor : Obligations.RunAsksItsNozzlesAtTheAnchor := by
  intro e i before r t ask start peak
  have asked : ∀ (due : NozzleConfig → Bool) x target p,
      requestWhen e ((e.cfg.nozzle x).any due) x target p = ask x due target p := by
    intro due x target p
    simp only [ask]
    cases e.cfg.nozzle x with
    | none => rfl
    | some n => cases x <;> rfl
  have peaks : ∀ x p, requestWhen e (peakDue e.cfg i r.cls x) x r.peakPost p = ask x peak r.peakPost p := fun x p => by
    rw [peakDue_eq, asked]
  have starts : ∀ x p, requestWhen e (startDue e.cfg i before r.cls x) x r.start p = ask x start r.start p := fun x p => by
    rw [startDue_eq, asked]
  refine ⟨?_, ?_, ?_, peakRequests_forced e i _⟩
  · rw [← starts, ← starts]; rfl
  · rw [← peaks, ← peaks]; rfl
  · rw [← peaks, ← peaks]; rfl

/-! ### The Run Queue -/

/-- The oldest run of lower class beyond the held ones is the one given up. -/
theorem evictionIndex_of_oldest {held cls k : Nat} {queue : List RunRecord} {x : RunRecord} (beyond : held ≤ k)
    (at_k : queue[k]? = some x) (lower : x.cls < cls)
    (oldest : ∀ j y, held ≤ j → j < k → queue[j]? = some y → cls ≤ y.cls) : evictionIndex held cls queue = some k := by
  cases found : evictionIndex held cls queue with
  | none => exact absurd (evictionIndex_none found k x beyond at_k) (Nat.not_le.2 lower)
  | some l =>
    obtain ⟨beyond', ⟨y, at_l, lower'⟩, oldest'⟩ := evictionIndex_some found
    congr 1
    refine Nat.le_antisymm (Nat.le_of_not_lt fun lt => ?_) (Nat.le_of_not_lt fun lt => ?_)
    · exact absurd (oldest' k x beyond lt at_k) (Nat.not_le.2 lower)
    · exact absurd (oldest l y beyond' lt at_l) (Nat.not_le.2 lower')

theorem evictionIndex_of_none_lower {held cls : Nat} {queue : List RunRecord}
    (none_lower : ∀ k x, held ≤ k → queue[k]? = some x → cls ≤ x.cls) : evictionIndex held cls queue = none := by
  cases found : evictionIndex held cls queue with
  | none => rfl
  | some k =>
    obtain ⟨beyond, ⟨x, at_k, lower⟩, -⟩ := evictionIndex_some found
    exact absurd (none_lower k x beyond at_k) (Nat.not_le.2 lower)

/-- An offer to a full queue, by the place that can be given up. -/
theorem offerRun_full {held : Nat} {r : RunRecord} {t : Tracker} (full : t.queue.length = 32) :
    offerRun held r t =
      { t with
        queue := ((evictionIndex held r.cls t.queue).map fun k => t.queue.eraseIdx k ++ [r]).getD t.queue
        runsLost := if t.runsLost < 65535 then t.runsLost + 1 else t.runsLost } := by
  rw [offerRun, if_neg (by omega), addSat16_one]
  cases evictionIndex held r.cls t.queue <;> rfl

/-- Settles O35: the place of the oldest run of lower class beyond the held ones is the one that `evictionIndex` finds. -/
theorem runQueueEvictsOldestLowerClass : Obligations.RunQueueEvictsOldestLowerClass := by
  intro held r t lost
  refine ⟨fun room => if_pos room, fun full => ⟨fun k x beyond at_k lower oldest => ?_, fun none_lower => ?_⟩⟩
  · rw [offerRun_full full, evictionIndex_of_oldest beyond at_k lower oldest, Option.map_some, Option.getD_some,
      List.eraseIdx_eq_take_drop_succ]
  · rw [offerRun_full full, evictionIndex_of_none_lower none_lower]
    rfl

/-! ### A run closes -/

theorem isSpike_iff (m : TrackedMeasure) (r : OpenRun) : isSpike m r = true ↔ r.cls = 1 ∧ r.length < m.m := by
  simp [isSpike]

/-- A discarded run leaves its measure IDLE and a spike counted (R138). -/
theorem closeRun_of_spike {e : TrackEnv} {i : Fin 8} {m : TrackedMeasure} {cause : CloseCause} {r : OpenRun} {t : Tracks}
    (spike : r.cls = 1 ∧ r.length < m.m) :
    closeRun e i m cause r t =
      { t.setRun i none with
        tracker := { (t.setRun i none).tracker with spikes := addSat16 t.tracker.spikes 1 } } := by
  rw [closeRun, if_pos ((isSpike_iff m r).2 spike)]
  rfl

/-- A kept run, with the answers of its PEAK-anchored requests written in, is numbered and offered (R139, R143, R146). -/
theorem closeRun_of_kept {e : TrackEnv} {i : Fin 8} {m : TrackedMeasure} {cause : CloseCause} {r : OpenRun} {t : Tracks}
    (kept : ¬ (r.cls = 1 ∧ r.length < m.m)) :
    closeRun e i m cause r t =
      (let asked := peakRequests e i cause (r, t.setRun i none)
       { asked.2 with tracker := keepRun e.held i cause asked.1 (t.setRun i none).tracker }) := by
  rw [closeRun, if_neg (mt (isSpike_iff m r).1 kept)]
  simp only [peakRequests_tracker]

/-- Settles O34: a request writes its answer alone into the run that is recorded. -/
theorem closeFiltersNumbersAndOffers : Obligations.CloseFiltersNumbersAndOffers := by
  intro e i m cause r t length idle
  refine ⟨fun lowest short => ?_, fun kept => ?_⟩
  · rw [closeRun_of_spike ⟨lowest, short⟩, addSat16_one]
    rfl
  · intro asked record
    have recorded : runRecord i cause t.tracker.sequence asked.1 = record := by
      obtain ⟨left, right, answered⟩ := peakRequests_run e i cause (r, idle)
      simp only [record, asked, answered]
      rfl
    rw [closeRun_of_kept kept, ← recorded]
    rfl

/-- A close is the same whatever the run state of its measure was. -/
theorem closeRun_setRun (e : TrackEnv) (i : Fin 8) (m : TrackedMeasure) (cause : CloseCause) (r : OpenRun) (t : Tracks)
    (run : Option OpenRun) : closeRun e i m cause r (t.setRun i run) = closeRun e i m cause r t := by
  have idle : (t.setRun i run).setRun i none = t.setRun i none := by simp [Tracks.setRun]
  simp only [closeRun, idle]

theorem closeRun_idle (e : TrackEnv) (i : Fin 8) (m : TrackedMeasure) (cause : CloseCause) (r : OpenRun) (t : Tracks) :
    (closeRun e i m cause r t).tracker.runs[i] = none := by
  simp [closeRun_runs]

/-! ### The gap count -/

theorem Tracks.setRun_run (i : Fin 8) (run : Option OpenRun) (t : Tracks) :
    (t.setRun i run).tracker.runs[i] = run := by
  simp [Tracks.setRun]

theorem takeSkipped_of_idle {e : TrackEnv} {i : Fin 8} {m : TrackedMeasure} {t : Tracks}
    (idle : t.tracker.runs[i] = none) (n : Nat) : takeSkipped e i m n t = t := by
  rw [takeSkipped, idle]

theorem takeSkipped_zero (e : TrackEnv) (i : Fin 8) (m : TrackedMeasure) (t : Tracks) : takeSkipped e i m 0 t = t := by
  rw [takeSkipped]
  split <;> rfl

theorem takeSkipped_of_open {e : TrackEnv} {i : Fin 8} {m : TrackedMeasure} {r : OpenRun} {t : Tracks}
    (held : t.tracker.runs[i] = some r) (n : Nat) :
    takeSkipped e i m (n + 1) t = countGap e i m (n + 1) true r t := by
  rw [takeSkipped, held]
  rfl

/-- The run with `n` posts more in its gap, without data when `missing`. -/
def OpenRun.inGap (n : Nat) (missing : Bool) (r : OpenRun) : OpenRun :=
  { r with gap := r.gap + n, hadMissing := r.hadMissing || missing }

/-- Posts in the gap of a run whose count stays within G. -/
theorem countGap_within_tolerance {e : TrackEnv} {i : Fin 8} {m : TrackedMeasure} {n : Nat} {missing : Bool} {r : OpenRun}
    {t : Tracks} (within : r.gap + n ≤ m.g) :
    countGap e i m n missing r t = t.setRun i (some (r.inGap n missing)) := by
  have gap : min (r.gap + n) (m.g + 1) = r.gap + n := by omega
  simp only [countGap, gap, if_neg (Nat.not_lt.2 within)]
  rfl

/-- Posts in the gap of a run whose count passes G: the run closes at the first that does. -/
theorem countGap_past_tolerance {e : TrackEnv} {i : Fin 8} {m : TrackedMeasure} {n : Nat} {missing : Bool} {r : OpenRun}
    {t : Tracks} (past : m.g < r.gap + n) :
    countGap e i m n missing r t =
      closeRun e i m .gap { r with gap := m.g + 1, hadMissing := r.hadMissing || missing } t := by
  have gap : min (r.gap + n) (m.g + 1) = m.g + 1 := by omega
  simp only [countGap, gap, if_pos (Nat.lt_succ_self m.g)]

/-- One post in the gap of a run within G. -/
theorem countGap_one {e : TrackEnv} {i : Fin 8} {m : TrackedMeasure} {missing : Bool} {r : OpenRun} {t : Tracks}
    (within : r.gap ≤ m.g) :
    countGap e i m 1 missing r t =
      if m.g < r.gap + 1 then closeRun e i m .gap (r.inGap 1 missing) t else t.setRun i (some (r.inGap 1 missing)) := by
  split
  next past =>
    have gap : r.gap = m.g := by omega
    rw [countGap_past_tolerance past, OpenRun.inGap, gap]
  next kept => exact countGap_within_tolerance (Nat.not_lt.1 kept)

/-- Skipped posts may be taken one after the other. -/
theorem takeSkipped_succ {e : TrackEnv} {i : Fin 8} {m : TrackedMeasure} {r : OpenRun} {t : Tracks}
    (held : t.tracker.runs[i] = some r) (within : r.gap ≤ m.g) (n : Nat) :
    takeSkipped e i m (n + 1) t = takeSkipped e i m n (takeSkipped e i m 1 t) := by
  rw [takeSkipped_of_open held, takeSkipped_of_open held 0]
  by_cases past : m.g < r.gap + 1
  · rw [countGap_past_tolerance (by omega), countGap_past_tolerance past, takeSkipped_of_idle (closeRun_idle ..)]
  · rw [countGap_within_tolerance (n := 0 + 1) (Nat.not_lt.1 past)]
    cases n with
    | zero => rw [takeSkipped_zero, countGap_within_tolerance (n := 0 + 1) (Nat.not_lt.1 past)]
    | succ n =>
      rw [takeSkipped_of_open (Tracks.setRun_run ..)]
      by_cases later : m.g < r.gap + (n + 1 + 1)
      · rw [countGap_past_tolerance later, countGap_past_tolerance (by simp only [OpenRun.inGap]; omega), closeRun_setRun]
        simp only [OpenRun.inGap, Bool.or_true]
      · rw [countGap_within_tolerance (by omega), countGap_within_tolerance (by simp only [OpenRun.inGap]; omega)]
        simp [Tracks.setRun, OpenRun.inGap, Nat.add_left_comm, Nat.add_comm]

/-! ### What a measure makes of a post -/

section
variable {e : TrackEnv} {i : Fin 8} {m : TrackedMeasure} {g : GeometryRecord} {t : Tracks} {r : OpenRun} {d : Int}

theorem takePost_idle_no_data (idle : t.tracker.runs[i] = none) (no_data : deviation m g = none) :
    takePost e i m g t = t := by
  rw [takePost, idle, no_data]

theorem takePost_idle (idle : t.tracker.runs[i] = none) (data : deviation m g = some d) :
    takePost e i m g t = takeIdle e i m g.trackPost d t := by
  rw [takePost, idle, data]

theorem takePost_no_data (held : t.tracker.runs[i] = some r) (no_data : deviation m g = none) :
    takePost e i m g t = countGap e i m 1 true r t := by
  rw [takePost, held, no_data]

theorem takePost_not_exceeding (held : t.tracker.runs[i] = some r) (data : deviation m g = some d)
    (below : exceeding m d = false) : takePost e i m g t = countGap e i m 1 false r t := by
  simp only [takePost, held, data, below]
  rfl

theorem takePost_exceeding (held : t.tracker.runs[i] = some r) (data : deviation m g = some d)
    (above : exceeding m d = true) : takePost e i m g t = takeExceeding e i m g.trackPost d r t := by
  simp only [takePost, held, data, above, if_true]

end

/-- Settles O32: a post in the gap is counted once, and skipped posts one after the other. -/
theorem gapCountClosesRun : Obligations.GapCountClosesRun := by
  intro e i m r t held within counted
  have counts : ∀ missing, countGap e i m 1 missing r t = counted missing := fun missing => countGap_one within
  exact ⟨fun g no_data => (takePost_no_data held no_data).trans (counts true),
    fun g d data below => (takePost_not_exceeding held data below).trans (counts false),
    takeSkipped_zero e i m t, (takeSkipped_of_open held 0).trans (counts true), takeSkipped_succ held within,
    fun n u idle => takeSkipped_of_idle idle n⟩

/-! ### Runs open and go on -/

/-- The edges raised when a run's class rises to `now` (R141). -/
theorem classAlerts_eq (before now : Nat) (a : Alert) :
    classAlerts before now a = { a with
      edges := a.edges ||| if before < 2 ∧ now = 2 then 2#4 else if before < 3 ∧ now = 3 then 1#4 else 0#4 } := by
  have rises : ∀ low cls, (now == cls && decide (before < low)) = decide (before < low ∧ now = cls) := fun low cls => by
    rw [Bool.and_comm, Bool.decide_and]
    rfl
  rw [classAlerts, rises, rises]
  by_cases plan : before < 2 ∧ now = 2
  · simp [Alert.raiseIf, planEdge, plan]
  · by_cases act : before < 3 ∧ now = 3
    · simp [Alert.raiseIf, actEdge, act]
    · simp only [Alert.raiseIf, plan, act, decide_false, if_false, Bool.false_eq_true, BitVec.or_zero]

/-- Settles O31: a run is opened as one whose class rises from 0. -/
theorem idleMeasureOpensRunAtClassOne : Obligations.IdleMeasureOpensRunAtClassOne := by
  refine ⟨fun e i m g t idle => ⟨takeSkipped_of_idle idle, takePost_idle_no_data idle, fun d data => ?_⟩, fun _ _ _ => rfl⟩
  rw [takePost_idle idle data]
  refine ⟨fun zero => if_pos zero, fun _ => ?_⟩
  intro run raised
  rw [takeIdle, if_neg (by omega), holdRun_eq, classAlerts_eq]
  have raises : (if 0 < 2 ∧ postClass m d = 2 then 2#4 else if 0 < 3 ∧ postClass m d = 3 then 1#4 else 0#4) = raised := by
    simp [raised]
  rw [show (newRun g.trackPost (postClass m d) d).cls = postClass m d from rfl, raises]
  rfl

/-- The run and the blocks once an OPEN measure has taken an exceeding post within the cap, START requests made. -/
def extended (e : TrackEnv) (i : Fin 8) (m : TrackedMeasure) (post d : Int) (r : OpenRun) (t : Tracks) :
    OpenRun × Tracks :=
  startRequests e i r.cls (extendRun m post d r,
    { t with alert := classAlerts r.cls (extendRun m post d r).cls t.alert })

theorem extended_tracker (e : TrackEnv) (i : Fin 8) (m : TrackedMeasure) (post d : Int) (r : OpenRun) (t : Tracks) :
    (extended e i m post d r t).2.tracker = t.tracker := startRequests_tracker ..

/-- The run that goes on is the extended one with the answers of its requests. -/
theorem extended_run (e : TrackEnv) (i : Fin 8) (m : TrackedMeasure) (post d : Int) (r : OpenRun) (t : Tracks) :
    ∃ left right, (extended e i m post d r t).1 = { extendRun m post d r with left, right } := startRequests_run ..

/-- Beyond the cap the run closes first and the post is the IDLE measure's (R136). -/
theorem takeExceeding_beyond_cap {e : TrackEnv} {i : Fin 8} {m : TrackedMeasure} {post d : Int} {r : OpenRun} {t : Tracks}
    (beyond : 4096 < post - r.start + 1) :
    takeExceeding e i m post d r t = takeIdle e i m post d (closeRun e i m .truncated r t) := if_pos beyond

/-- Within the cap the run goes on, and closes when it has reached the cap (R133, R136). -/
theorem takeExceeding_within_cap {e : TrackEnv} {i : Fin 8} {m : TrackedMeasure} {post d : Int} {r : OpenRun} {t : Tracks}
    (within : post - r.start + 1 ≤ 4096) :
    takeExceeding e i m post d r t =
      (let asked := extended e i m post d r t
       let taken := asked.2.setRun i (some asked.1)
       if post - r.start + 1 = 4096 then closeRun e i m .truncated asked.1 taken else taken) := by
  have held : holdRun e i r.cls (extendRun m post d r) t =
      (extended e i m post d r t).2.setRun i (some (extended e i m post d r t).1) := rfl
  obtain ⟨left, right, answered⟩ := extended_run e i m post d r t
  have start : (extended e i m post d r t).1.start = r.start := by rw [answered]; rfl
  simp only [takeExceeding, if_neg (Int.not_lt.2 within), held, Tracks.setRun_run, start]

/-- The class a run has after a post, and its peak. -/
theorem extendRun_eq (m : TrackedMeasure) (post d : Int) (r : OpenRun) :
    extendRun m post d r =
      { (if r.peak < d.natAbs then { r with peak := d.natAbs, negative := decide (d < 0), peakPost := post } else r) with
        last := post, gap := 0, cls := if r.cls < postClass m d then postClass m d else r.cls } := by
  have cls : max r.cls (postClass m d) = if r.cls < postClass m d then postClass m d else r.cls := by
    split <;> omega
  by_cases higher : r.peak < d.natAbs <;> simp [extendRun, higher, cls]

/-- Settles O33: the cap is tested before the post is taken and after, and between the two the run is the extended one. -/
theorem exceedingPostExtendsRun : Obligations.ExceedingPostExtendsRun := by
  intro e i m g d r t held data above top p length cls peaked run raised asked taken
  have extends_run : extendRun m p d r = run := extendRun_eq m p d r
  have raises : classAlerts r.cls run.cls t.alert = { t.alert with edges := t.alert.edges ||| raised } := classAlerts_eq ..
  have asks : extended e i m p d r t = asked := by
    rw [extended, extends_run, raises]
  have takes : asked.2.setRun i (some asked.1) = taken := by
    rw [← asks, Tracks.setRun, extended_tracker, asks]
  rw [takePost_exceeding held data above]
  refine ⟨fun beyond => ?_, fun below => ?_, fun full => ?_⟩
  · rw [takeExceeding_beyond_cap beyond, takePost_idle (closeRun_idle ..) data]
  · rw [takeExceeding_within_cap (by omega : length ≤ 4096), asks]
    simp only [takes]
    exact if_neg (by omega : ¬ length = 4096)
  · rw [takeExceeding_within_cap (by omega : length ≤ 4096), asks]
    simp only [takes]
    exact if_pos full

end Sys2Proof.Machine
end

section
/-! What the evaluation of a record and the FORCED closes leave of the bounds of open runs and of queued run records (R129,
R131, R135 to R137, R140, R144). -/

namespace Sys2Proof.Machine

/-! ### Deviations -/

/-- The nominal of each tracked measure is a displacement count (R127). -/
def StationConfig.NominalsInRange (c : StationConfig) : Prop := ∀ m ∈ c.measures, -32768 ≤ m.nominal ∧ m.nominal ≤ 32767

theorem effective_nominals (b : List Byte) : (effective b).NominalsInRange := by
  intro m held
  obtain ⟨i, -, rfl⟩ := List.mem_map.1 held
  exact toInt16_range _

theorem measuredValue_inRange (measure : Measure) {g : GeometryRecord} (h : g.InRange) :
    optInRange (measuredValue measure g) := by
  obtain ⟨gdev, cant, chords, twists⟩ := h
  cases measure with
  | gdev => exact gdev
  | cant => exact cant
  | chord i => exact chords i
  | twist j => exact twists j

/-- The difference of two displacement counts has at most sixteen bits (R130). -/
theorem deviation_natAbs_le {m : TrackedMeasure} {g : GeometryRecord} (hg : g.InRange)
    (nominal : -32768 ≤ m.nominal ∧ m.nominal ≤ 32767) {d : Int} (data : deviation m g = some d) : d.natAbs ≤ 65535 := by
  cases value : measuredValue m.measure g with
  | none => exact nomatch (deviation_of_absent value).symm.trans data
  | some v =>
    have range : -32768 ≤ v.dc ∧ v.dc ≤ 32767 := measuredValue_inRange m.measure hg v value
    rw [deviation_of_present value] at data
    split at data
    · exact nomatch data
    · cases data
      omega

/-! ### Bounds of a run -/

/-- What a run keeps up to its close, also one that has just reached the cap or passed G (R131, R136, R144). -/
structure OpenRun.Closable (r : OpenRun) : Prop where
  cls : 1 ≤ r.cls ∧ r.cls ≤ 3
  peak : 1 ≤ r.peak ∧ r.peak ≤ 65535
  posts : r.start ≤ r.peakPost ∧ r.peakPost ≤ r.last
  length : r.last - r.start + 1 ≤ 4096

theorem OpenRun.Ok.closable {g : Nat} {r : OpenRun} (h : r.Ok g) : r.Closable :=
  ⟨h.cls, h.peak, h.posts, Int.le_of_lt h.length⟩

/-- A run below the cap whose gap count is within G is a sound open run. -/
theorem OpenRun.Closable.ok {g : Nat} {r : OpenRun} (h : r.Closable) (short : r.last - r.start + 1 < 4096)
    (gap : r.gap ≤ g) : r.Ok g :=
  ⟨h.cls, h.peak, h.posts, short, gap⟩

/-- The answers of requests are no bounds of a run. -/
theorem OpenRun.Closable.answered {r asked : OpenRun} (h : r.Closable)
    (answers : ∃ left right, asked = { r with left, right }) : asked.Closable := by
  obtain ⟨left, right, rfl⟩ := answers
  exact ⟨h.cls, h.peak, h.posts, h.length⟩

theorem runRecord_ok (i : Fin 8) (cause : CloseCause) (sequence : Half) {r : OpenRun} (h : r.Closable) :
    (runRecord i cause sequence r).Ok := by
  have posts := h.posts
  have cap := h.length
  have number := i.isLt
  have length : (r.length : Int) = r.last - r.start + 1 := Int.toNat_of_nonneg (by omega)
  exact {
    measure := by simp only [runRecord]; omega
    cls := h.cls
    peak := h.peak
    posts := h.posts
    length := ⟨length, by simp only [runRecord]; omega, by simp only [runRecord]; omega⟩ }

/-- A post of class 1 or above opens a sound run (R132). -/
theorem newRun_ok {m : TrackedMeasure} {d : Int} (classed : postClass m d ≠ 0) (small : d.natAbs ≤ 65535) (post : Int) :
    (newRun post (postClass m d) d).Ok m.g where
  cls := ⟨Nat.pos_of_ne_zero classed, postClass_le m d⟩
  peak := ⟨by
    have := postClass_cases m d
    simp only [newRun]
    omega, small⟩
  posts := ⟨Int.le_refl _, Int.le_refl _⟩
  length := by simp only [newRun]; omega
  gap := Nat.zero_le _

/-- An exceeding post behind the run's last and within the cap leaves the run's bounds (R133, R136). -/
theorem extendRun_closable {r : OpenRun} (h : r.Closable) (m : TrackedMeasure) {post d : Int} (behind : r.last ≤ post)
    (small : d.natAbs ≤ 65535) (within : post - r.start + 1 ≤ 4096) : (extendRun m post d r).Closable := by
  obtain ⟨first, top⟩ := h.cls
  obtain ⟨low, high⟩ := h.peak
  obtain ⟨started, peaked⟩ := h.posts
  have class_le := postClass_le m d
  refine ⟨⟨le_max_of_le_left first, Nat.max_le.2 ⟨top, class_le⟩⟩, ?_, ?_, within⟩
  · by_cases higher : r.peak < d.natAbs <;> simp [extendRun, higher] <;> omega
  · by_cases higher : r.peak < d.natAbs <;> simp [extendRun, higher] <;> omega

/-! ### Bounds of the tracker -/

/-- The tracker holds sound open runs of configured measures, which end at track post `bound` or before, and sound run
records (R131, R144). -/
structure Tracker.Within (c : StationConfig) (bound : Int) (t : Tracker) : Prop where
  runs : ∀ (i : Fin 8) r, t.runs[i] = some r → (∃ m, c.measures[i.val]? = some m ∧ r.Ok m.g) ∧ r.last ≤ bound
  records : ∀ r ∈ t.queue, r.Ok

namespace Tracker.Within

variable {c : StationConfig} {bound : Int} {t : Tracker}

theorem mono (h : t.Within c bound) {later : Int} (le : bound ≤ later) : t.Within c later :=
  ⟨fun i r held => (h.runs i r held).imp_right (·.trans le), h.records⟩

/-- A tracker without open runs. -/
theorem of_idle (runs : ∀ i : Fin 8, t.runs[i] = none) (records : ∀ r ∈ t.queue, r.Ok) : t.Within c bound :=
  ⟨fun i _ held => (nomatch (runs i).symm.trans held), records⟩

/-- Another run state of measure `i`, sound if it is a run. -/
theorem setRun (h : t.Within c bound) {i : Fin 8} {run : Option OpenRun}
    (sound : ∀ r, run = some r → (∃ m, c.measures[i.val]? = some m ∧ r.Ok m.g) ∧ r.last ≤ bound) :
    Tracker.Within c bound { t with runs := t.runs.set i run } := by
  refine ⟨fun j r held => ?_, h.records⟩
  simp only [Fin.getElem_fin, Vector.getElem_set] at held
  split at held
  next same => exact Fin.ext same ▸ sound r held
  next other => exact h.runs j r held

/-- A sound run record that is offered. -/
theorem offer (h : t.Within c bound) (held : Nat) {r : RunRecord} (ok : r.Ok) : (offerRun held r t).Within c bound := by
  refine ⟨fun i run open_ => h.runs i run (offerRun_runs held r t ▸ open_), ?_⟩
  have joined : ∀ queue : List RunRecord, queue.Sublist t.queue → ∀ x ∈ queue ++ [r], x.Ok := fun queue fewer =>
    List.forall_mem_append.2 ⟨fun x hx => h.records x (fewer.subset hx), List.forall_mem_singleton.2 ok⟩
  obtain ⟨-, eq⟩ | ⟨-, k, -, -, eq⟩ | ⟨-, eq⟩ := offerRun_frame held r t <;> rw [eq]
  · exact joined _ (List.Sublist.refl _)
  · exact joined _ (List.eraseIdx_sublist _ _)
  · exact h.records

/-- A run within its bounds that is numbered and offered. -/
theorem keep (h : t.Within c bound) (held : Nat) (i : Fin 8) (cause : CloseCause) {r : OpenRun} (ok : r.Closable) :
    (keepRun held i cause r t).Within c bound :=
  offer (t := { t with sequence := t.sequence + 1 }) ⟨h.runs, h.records⟩ held (runRecord_ok i cause t.sequence ok)

end Tracker.Within

/-! ### Bounds of the three blocks of an evaluation -/

section

variable {e : TrackEnv} {bound : Int} {t : Tracks} (h : t.tracker.Within e.cfg bound)
include h

/-- A close of a run within its bounds, for whatever cause (R137 to R139). -/
theorem closeRun_within (i : Fin 8) (m : TrackedMeasure) (cause : CloseCause) {r : OpenRun} (ok : r.Closable) :
    (closeRun e i m cause r t).tracker.Within e.cfg bound := by
  have idle : (t.setRun i none).tracker.Within e.cfg bound := h.setRun nofun
  by_cases spike : r.cls = 1 ∧ r.length < m.m
  · rw [closeRun_of_spike spike]
    exact ⟨idle.runs, idle.records⟩
  · rw [closeRun_of_kept spike]
    exact idle.keep e.held i cause (ok.answered (peakRequests_run e i cause (r, t.setRun i none)))

variable {i : Fin 8} {m : TrackedMeasure} (configured : e.cfg.measures[i.val]? = some m)
include configured

/-- A run is held as the measure's open run. -/
theorem setRun_within {r : OpenRun} (ok : r.Ok m.g) (last : r.last ≤ bound) :
    (t.setRun i (some r)).tracker.Within e.cfg bound :=
  h.setRun fun _ same => Option.some.inj same ▸ ⟨⟨m, configured, ok⟩, last⟩

theorem countGap_within {r : OpenRun} (ok : r.Ok m.g) (last : r.last ≤ bound) (n : Nat) (missing : Bool) :
    (countGap e i m n missing r t).tracker.Within e.cfg bound := by
  by_cases past : m.g < r.gap + n
  · rw [countGap_past_tolerance past]
    exact closeRun_within h i m .gap ⟨ok.cls, ok.peak, ok.posts, ok.closable.length⟩
  · rw [countGap_within_tolerance (Nat.not_lt.1 past)]
    exact setRun_within h configured ⟨ok.cls, ok.peak, ok.posts, ok.length, Nat.not_lt.1 past⟩ last

theorem takeIdle_within {post d : Int} (small : d.natAbs ≤ 65535) (last : post ≤ bound) :
    (takeIdle e i m post d t).tracker.Within e.cfg bound := by
  rw [takeIdle]
  split
  · exact h
  next classed =>
    have ok := newRun_ok classed small post
    obtain ⟨left, right, answered⟩ := startRequests_run e i 0 (newRun post (postClass m d) d,
      { t with alert := classAlerts 0 (newRun post (postClass m d) d).cls t.alert })
    rw [holdRun_eq]
    simp only [answered]
    exact setRun_within h configured ⟨ok.cls, ok.peak, ok.posts, ok.length, ok.gap⟩ last

theorem takeExceeding_within {post d : Int} {r : OpenRun} (ok : r.Ok m.g) (behind : r.last ≤ post)
    (small : d.natAbs ≤ 65535) (last : post ≤ bound) :
    (takeExceeding e i m post d r t).tracker.Within e.cfg bound := by
  by_cases beyond : 4096 < post - r.start + 1
  · rw [takeExceeding_beyond_cap beyond]
    exact takeIdle_within (closeRun_within h i m .truncated ok.closable) configured small last
  · have within := Int.not_lt.1 beyond
    have answers := extended_run e i m post d r t
    have asked := (extendRun_closable ok.closable m behind small within).answered answers
    have same := extended_tracker e i m post d r t
    have kept : (extended e i m post d r t).2.tracker.Within e.cfg bound := same ▸ h
    rw [takeExceeding_within_cap within]
    simp only
    split
    · rw [closeRun_setRun]
      exact closeRun_within kept i m .truncated asked
    next below =>
      obtain ⟨left, right, eq⟩ := answers
      refine setRun_within kept configured (asked.ok ?_ ?_) ?_
      · rw [eq]; exact lt_of_le_of_ne within below
      · rw [eq]; exact Nat.zero_le _
      · rw [eq]; exact last

/-- A record's own post, no run ending behind it. -/
theorem takePost_within {g : GeometryRecord} (last : bound = g.trackPost)
    (small : ∀ d, deviation m g = some d → d.natAbs ≤ 65535) : (takePost e i m g t).tracker.Within e.cfg bound := by
  cases held : t.tracker.runs[i] with
  | none =>
    cases data : deviation m g with
    | none => rw [takePost_idle_no_data held data]; exact h
    | some d => rw [takePost_idle held data]; exact takeIdle_within h configured (small d data) last.ge
  | some r =>
    obtain ⟨⟨m', configured', ok⟩, ends⟩ := h.runs i r held
    obtain rfl : m = m' := Option.some.inj (configured.symm.trans configured')
    have gap := countGap_within h configured ok ends
    cases data : deviation m g with
    | none => rw [takePost_no_data held data]; exact gap 1 true
    | some d =>
      cases above : exceeding m d with
      | false => rw [takePost_not_exceeding held data above]; exact gap 1 false
      | true =>
        rw [takePost_exceeding held data above]
        exact takeExceeding_within h configured ok (last ▸ ends) (small d data) last.ge

/-- The skipped posts before a record. -/
theorem takeSkipped_within (n : Nat) : (takeSkipped e i m n t).tracker.Within e.cfg bound := by
  cases n with
  | zero => rw [takeSkipped_zero]; exact h
  | succ n =>
    cases held : t.tracker.runs[i] with
    | none => rw [takeSkipped_of_idle held]; exact h
    | some r =>
      obtain ⟨⟨m', configured', ok⟩, ends⟩ := h.runs i r held
      obtain rfl : m = m' := Option.some.inj (configured.symm.trans configured')
      rw [takeSkipped_of_open held]
      exact countGap_within h configured ok ends (n + 1) true

end

/-! ### A whole record -/

/-- A measure and its position, as the record is evaluated by them (R127, R129). -/
theorem configured_of_mem_indexedMeasures {c : StationConfig} {im : Fin 8 × TrackedMeasure} (h : im ∈ indexedMeasures c) :
    c.measures[im.1.val]? = some im.2 := by
  have position : ∀ (k : Nat) (i : Fin 8), eight[k]? = some i → i.val = k := fun k i at_k => by
    have short : k < 8 := (List.getElem?_eq_some_iff.1 at_k).1
    have place : ∀ k : Fin 8, eight[k.val]? = some k := by decide
    exact congrArg Fin.val (Option.some.inj (at_k.symm.trans (place ⟨k, short⟩)))
  obtain ⟨k, place⟩ := List.mem_iff_getElem?.1 h
  obtain ⟨number, measure⟩ := List.getElem?_zip_eq_some.1 place
  rw [position k im.1 number]
  exact measure

/-- The evaluation of a record behind which no open run ends. -/
theorem evaluateRecord_within {e : TrackEnv} {g : GeometryRecord} (nominals : e.cfg.NominalsInRange) (hg : g.InRange)
    {t : Tracks} (h : t.tracker.Within e.cfg g.trackPost) : (evaluateRecord e g t).tracker.Within e.cfg g.trackPost := by
  have measures : ∀ l ⊆ indexedMeasures e.cfg, ∀ t : Tracks, t.tracker.Within e.cfg g.trackPost →
      (l.foldl (evaluateMeasure e g) t).tracker.Within e.cfg g.trackPost := by
    intro l
    induction l with
    | nil => exact fun _ _ h => h
    | cons im rest ih =>
      intro among t h
      obtain ⟨present, later⟩ := List.cons_subset.1 among
      have configured := configured_of_mem_indexedMeasures present
      exact ih later _ (takePost_within (takeSkipped_within h configured _) configured rfl fun d =>
        deviation_natAbs_le hg (nominals im.2 (List.mem_of_getElem? configured)))
  exact measures _ (List.Subset.refl _) t h

/-- The FORCED closes leave sound run records, and every measure IDLE (R140). -/
theorem forceRuns_within {e : TrackEnv} {bound : Int} {t : Tracks} (h : t.tracker.Within e.cfg bound) :
    (∀ i : Fin 8, (forceRuns e t).tracker.runs[i] = none) ∧ ∀ r ∈ (forceRuns e t).tracker.queue, r.Ok := by
  have closes : ∀ (l : List (Fin 8 × TrackedMeasure)) (t : Tracks), t.tracker.Within e.cfg bound →
      (l.foldl (forceMeasure e) t).tracker.Within e.cfg bound := by
    intro l
    induction l with
    | nil => exact fun _ h => h
    | cons im rest ih =>
      intro t h
      refine ih _ ?_
      rw [forceMeasure]
      split
      · exact h
      next r held =>
        obtain ⟨⟨m, -, ok⟩, -⟩ := h.runs im.1 r held
        exact closeRun_within h im.1 im.2 .forced ok.closable
  have forced : (forceRuns e t).tracker.Within e.cfg bound := closes _ t h
  refine ⟨fun i => ?_, forced.records⟩
  obtain ⟨-, -, runs⟩ := foldl_forceMeasure e (indexedMeasures e.cfg) t
  rw [forceRuns, runs]
  split
  · rfl
  next unlisted =>
    cases held : t.tracker.runs[i] with
    | none => rfl
    | some r =>
      obtain ⟨⟨m, configured, -⟩, -⟩ := h.runs i r held
      exact absurd ((mem_indexedMeasures e.cfg i).2 (List.getElem?_eq_some_iff.1 configured).1) unlisted

end Sys2Proof.Machine
end

section
/-! The step lemma for open runs and queued run records: runs trail behind the rows still to be evaluated, retirement hands
each row's record to runs that end before it, and every other update leaves both (R69, R80, R83, R131, R136, R140). -/

namespace Sys2Proof.Machine

/-! ### Runs behind the rows -/

/-- Where open runs have ended: before the track post of the oldest row, or at that of post `p` when there is no row. -/
def horizon (c : StationConfig) (p : Nat) : List Row → Int
  | [] => (p : Int) - c.carOffset
  | row :: _ => (row.post : Int) - c.carOffset - 1

/-- Runs have ended at post `p` or before when no row is beyond it. -/
theorem horizon_le {c : StationConfig} {p : Nat} {rows : List Row} (reached : ∀ row ∈ rows, row.post ≤ p) :
    horizon c p rows ≤ (p : Int) - c.carOffset := by
  cases rows with
  | nil => exact Int.le_refl _
  | cons row rest =>
    have := reached row List.mem_cons_self
    simp only [horizon]
    omega

/-- Every row is still to come after the horizon. -/
theorem horizon_lt {c : StationConfig} {p : Nat} {rows : List Row} (ascending : rows.Pairwise fun x y => x.post < y.post)
    {row : Row} (held : row ∈ rows) : horizon c p rows < (row.post : Int) - c.carOffset := by
  cases rows with
  | nil => exact nomatch held
  | cons oldest rest =>
    have least : oldest.post ≤ row.post := by
      rcases List.mem_cons.1 held with rfl | behind
      · exact Nat.le_refl _
      · exact (List.rel_of_pairwise_cons ascending behind).le
    simp only [horizon]
    omega

/-- A row's record may be evaluated: the horizon moves past it, to the next row or on to `p`. -/
theorem track_le_horizon {c : StationConfig} {p : Nat} {row : Row} {rest : List Row}
    (ascending : (row :: rest).Pairwise fun x y => x.post < y.post) (reached : row.post ≤ p) :
    (row.post : Int) - c.carOffset ≤ horizon c p rest := by
  cases rest with
  | nil => simp only [horizon]; omega
  | cons next _ =>
    have : row.post < next.post := List.rel_of_pairwise_cons ascending List.mem_cons_self
    simp only [horizon]
    omega

/-- The posts of the rows alone fix the horizon. -/
theorem horizon_congr {c : StationConfig} {p : Nat} {rows rows' : List Row} (posts : rows'.map Row.post = rows.map Row.post) :
    horizon c p rows' = horizon c p rows := by
  match rows, rows', posts with
  | [], [], _ => rfl
  | row :: _, row' :: _, posts =>
    have same : row'.post = row.post := (List.cons.inj posts).1
    simp only [horizon, same]

/-- Rows that retire, oldest first, hand on records that no open run ends behind. -/
theorem retireWhile_within {e : TrackEnv} {p : Nat} (nominals : e.cfg.NominalsInRange) (leaves : Row → Bool)
    (rows : List Row) (f : Flow) (ascending : rows.Pairwise fun x y => x.post < y.post)
    (reached : ∀ row ∈ rows, row.post ≤ p) (values : ∀ row ∈ rows, row.InRange)
    (h : f.tracks.tracker.Within e.cfg (horizon e.cfg p rows)) :
    (retireWhile e leaves rows f).tracks.tracker.Within e.cfg (horizon e.cfg p (rows.dropWhile leaves)) := by
  induction rows generalizing f with
  | nil => exact h
  | cons row rest ih =>
    rw [retireWhile]
    by_cases leave : leaves row = true
    · rw [if_pos leave, List.dropWhile_cons_of_pos leave]
      obtain ⟨present, later⟩ := List.forall_mem_cons.1 reached
      obtain ⟨range, values⟩ := List.forall_mem_cons.1 values
      refine ih (retireRow e row f) ascending.of_cons later values (Tracker.Within.mono ?_ (track_le_horizon ascending present))
      exact evaluateRecord_within nominals (recordOf_inRange e.cfg f.ring range)
        (h.mono (horizon_lt ascending List.mem_cons_self).le)
    · rw [if_neg leave, List.dropWhile_cons_of_neg leave]
      exact h

/-- What retirement needs and keeps, with `p` a post that the rows have not passed: rows of ascending posts with values in
range, sound nominals, and sound runs that trail behind the rows (R69, R105, R127, R131). -/
structure State.Trailing (s : State) (p : Nat) : Prop where
  ascending : s.window.rows.Pairwise fun x y => x.post < y.post
  reached : ∀ row ∈ s.window.rows, row.post ≤ p
  values : ∀ row ∈ s.window.rows, row.InRange
  nominals : s.cfg.NominalsInRange
  runs : s.tracker.Within s.cfg (horizon s.cfg p s.window.rows)

namespace State.Trailing

variable {s : State} {p : Nat} (h : s.Trailing p)
include h

/-- A change outside rows, tracker and configuration. -/
theorem frame {t : State} (rows : t.window.rows = s.window.rows) (tracker : t.tracker = s.tracker) (cfg : t.cfg = s.cfg) :
    t.Trailing p := by
  constructor
  case ascending => rw [rows]; exact h.ascending
  case reached => rw [rows]; exact h.reached
  case values => rw [rows]; exact h.values
  case nominals => rw [cfg]; exact h.nominals
  case runs => rw [rows, tracker, cfg]; exact h.runs

/-- Rows retire from the oldest end (R72, R80, R83). -/
theorem retiring (leaves : Row → Bool) : (s.retiring leaves).Trailing p := by
  have fewer : (s.retiring leaves).window.rows.Sublist s.window.rows :=
    s.retiring_rows leaves ▸ List.dropWhile_sublist leaves
  constructor
  case ascending => exact h.ascending.sublist fewer
  case reached => exact fun row held => h.reached row (fewer.subset held)
  case values => exact fun row held => h.values row (fewer.subset held)
  case nominals => exact h.nominals
  case runs =>
    rw [s.retiring_rows leaves]
    exact retireWhile_within (e := s.trackEnv) h.nominals leaves _ s.flow h.ascending h.reached h.values h.runs

/-- A post advance retires rows alone, as far as rows and runs go (R22, R72). -/
theorem postAdvance (n : Nat) : (s.postAdvance n).Trailing p := by
  let t : State := { s.advanceMarker n with bus := (s.advanceMarker n).bus.shed s.cfg.depth n }
  have advanced : t.Trailing p := h.frame rfl rfl rfl
  exact advanced.retiring _

/-- A row of a higher post is opened, and the window tested (R73, R74, R80). -/
theorem openRow {row : Row} (higher : p < row.post) (range : row.InRange) : (s.openRow row).Trailing row.post := by
  let t : State := { s with window := { s.window with rows := s.window.rows ++ [row] } }
  have opened : t.Trailing row.post := {
    ascending := List.pairwise_append.2 ⟨h.ascending, List.pairwise_singleton _ _, fun x hx y hy =>
      (List.mem_singleton.1 hy).symm ▸ (h.reached x hx).trans_lt higher⟩
    reached := List.forall_mem_append.2
      ⟨fun x hx => (h.reached x hx).trans higher.le, List.forall_mem_singleton.2 (Nat.le_refl _)⟩
    values := List.forall_mem_append.2 ⟨h.values, List.forall_mem_singleton.2 range⟩
    nominals := h.nominals
    runs := by
      refine Tracker.Within.mono h.runs (?_ : horizon s.cfg p s.window.rows ≤ horizon s.cfg row.post (s.window.rows ++ [row]))
      cases s.window.rows with
      | nil => simp only [horizon, List.nil_append]; omega
      | cons oldest rest => exact Int.le_refl _ }
  exact opened.retiring Row.isReady

/-- A peer's sample in range is stored, and the window tested (R77, R80). -/
theorem storeSample (sender : Fin 8) (n : Nat) {x : Sample} (range : x.inRange) : (s.storeSample sender n x).Trailing p := by
  let t : State := { s with window := { s.window with rows := storeIn s.cfg sender n x s.window.rows } }
  have posts := storeIn_posts s.cfg sender n x s.window.rows
  have stored : t.Trailing p := {
    ascending := List.pairwise_map.1 (posts ▸ List.pairwise_map.2 h.ascending)
    reached := (List.forall_mem_map (P := (· ≤ p))).1 (posts ▸ List.forall_mem_map.2 h.reached)
    values := storeIn_inRange s.cfg sender n range h.values
    nominals := h.nominals
    runs := (horizon_congr posts ▸ h.runs :) }
  exact stored.retiring Row.isReady

/-- The latch event for a higher post opens its row (R21, R73). -/
theorem latch {n : Nat} (higher : p < n) (skipped : Nat) : (s.latch n skipped).Trailing n := by
  have closed : (s.closeInterval n).Trailing p := h.frame rfl rfl rfl
  have opened := closed.openRow (row := latchedRow s.cfg n skipped (s.latchSpeed n) s.localQuantities) higher
    (latchedRow_inRange s.cfg n skipped _ s.localQuantities_inRange)
  exact opened.frame rfl rfl rfl

/-- A post taken from a peer, up to the post advance (R15, R20, R22). -/
theorem takeIndex (n : Nat) : ((s.takeIndex n).postAdvance n).Trailing p :=
  State.Trailing.postAdvance (s := s.takeIndex n) (h.frame rfl rfl rfl) n

theorem adoptMark {n : Nat} (higher : p < n) : (s.adoptMark n).Trailing n := (h.takeIndex n).latch higher _

theorem adoptSilently {n : Nat} (higher : p < n) : (s.adoptSilently n).Trailing n :=
  (h.takeIndex n).openRow (row := unlatchedRow s.cfg n (s.skippedCount n)) higher (unlatchedRow_inRange s.cfg n _)

theorem completeMark {k : Nat} (higher : p < k) : (s.completeMark k).Trailing k := by
  let t : State := State.enterPost k { s with odo := { s.odo with acc := clampAcc (s.odo.acc - pitch) } }
  have entered : t.Trailing p := h.frame rfl rfl rfl
  exact ((entered.postAdvance k).latch higher 0).frame rfl rfl rfl

end State.Trailing

/-! ### The tracker of a station -/

/-- Runs trail behind the rows up to the current post, and there are none while pacing is inactive (R131, R140). -/
structure State.Tracked (s : State) : Prop where
  trailing : s.Trailing s.post
  inactive : s.armed = false → ∀ i : Fin 8, s.tracker.runs[i] = none

theorem State.Tracked.trackerOk {s : State} (h : s.Tracked) : s.TrackerOk where
  configured i r held := (h.trailing.runs.runs i r held).1
  behind i r held := by
    obtain ⟨-, last⟩ := h.trailing.runs.runs i r held
    exact ⟨last.trans (horizon_le h.trailing.reached), fun row behind =>
      last.trans_lt (horizon_lt h.trailing.ascending behind)⟩
  inactive := h.inactive
  records := h.trailing.runs.records

theorem State.Inv.tracked {s : State} (h : s.Inv) (high : s.resetn = true) : s.Tracked := by
  have window := h.window high
  have tracker := h.tracker high
  refine ⟨⟨window.ascending, fun row held => (window.range row held).2.1, h.values.rows, ?_, fun i r held => ?_,
    tracker.records⟩, tracker.inactive⟩
  · rw [State.cfg, (h.control high).config]
    cases s.control.block with
    | none => exact nofun
    | some b => exact effective_nominals b
  · refine ⟨tracker.configured i r held, ?_⟩
    obtain ⟨reached, behind⟩ := tracker.behind i r held
    cases rows : s.window.rows with
    | nil => exact reached
    | cons oldest rest => exact Int.le_sub_one_of_lt (behind oldest (rows ▸ List.mem_cons_self))

/-- A change outside rows, tracker, control block and current post. -/
theorem State.Tracked.frame {s t : State} (h : s.Tracked) (rows : t.window.rows = s.window.rows)
    (tracker : t.tracker = s.tracker) (control : t.control = s.control) (post : t.post = s.post) : t.Tracked := by
  have cfg : t.cfg = s.cfg := by rw [State.cfg, control, State.cfg]
  have armed : t.armed = s.armed := by rw [State.armed, control, State.armed]
  refine ⟨post ▸ h.trailing.frame rows tracker cfg, ?_⟩
  rw [armed, tracker]
  exact h.inactive

/-- The station has come to post `n`. -/
theorem State.Trailing.tracked {s : State} {n : Nat} (h : s.Trailing n) (post : s.post = n) (armed : s.armed = true) :
    s.Tracked :=
  ⟨post ▸ h, fun idle => absurd (armed.symm.trans idle) nofun⟩

/-- A station without rows and open runs, with sound run records. -/
theorem State.Tracked.of_idle {s : State} (rows : s.window.rows = []) (runs : ∀ i : Fin 8, s.tracker.runs[i] = none)
    (records : ∀ r ∈ s.tracker.queue, r.Ok) (nominals : s.cfg.NominalsInRange) : s.Tracked := by
  refine ⟨⟨?_, ?_, ?_, nominals, .of_idle runs records⟩, fun _ => runs⟩
  · rw [rows]; exact List.Pairwise.nil
  · rw [rows]; exact List.forall_mem_nil _
  · rw [rows]; exact List.forall_mem_nil _

/-- No measure has an open run at the start (R153). -/
theorem Tracker.initial_runs (i : Fin 8) : Tracker.initial.runs[i] = none := by simp [Tracker.initial]

/-- The tracker of a station that pacing is inactive for, whatever the configuration in force. -/
theorem State.Tracked.reconfigured {s t : State} (h : s.Tracked) (idle : s.armed = false)
    (rows : t.window.rows = s.window.rows) (tracker : t.tracker = s.tracker) (post : t.post = s.post)
    (nominals : t.cfg.NominalsInRange) : t.Tracked := by
  have runs : ∀ i : Fin 8, t.tracker.runs[i] = none := tracker ▸ h.inactive idle
  have trailing := h.trailing
  refine ⟨⟨?_, ?_, ?_, nominals, .of_idle runs ?_⟩, fun _ => runs⟩
  · rw [rows]; exact trailing.ascending
  · rw [rows, post]; exact trailing.reached
  · rw [rows]; exact trailing.values
  · rw [tracker]; exact trailing.runs.records

theorem State.Tracked.markSent {s : State} (h : s.Tracked) (paced : s.Paced) : s.markSent.Tracked := by
  rw [State.markSent]
  split
  next f sending =>
    obtain ⟨-, next, -⟩ := paced.own_mark sending
    let t : State := { s with bus := { s.bus.frameSent with slot := none } }
    have sent : t.Trailing s.post := h.trailing.frame rfl rfl rfl
    exact (sent.completeMark (next ▸ Nat.lt_succ_self s.post)).tracked rfl rfl
  · exact h.frame rfl rfl rfl rfl
  · exact h

/-- The four cases of a delivered sample (R76). -/
theorem State.Tracked.takeSample {s : State} (h : s.Tracked) (armed : s.armed = true) (sender : Fin 8) (n : Nat)
    {x : Sample} (range : x.inRange) : (s.takeSample sender n x).Tracked := by
  rw [State.takeSample]
  split
  next rise => exact ((h.trailing.adoptSilently rise).storeSample sender n range).tracked rfl rfl
  · split
    · split
      · exact (h.trailing.storeSample sender n range).tracked rfl armed
      · exact h.frame rfl rfl rfl rfl
    · exact h.frame rfl rfl rfl rfl

/-- DISARM and RESYNC close every open run and discard the rows (R140, R192, R193). -/
theorem State.Tracked.leaveRun {s : State} (h : s.Tracked) (station : StationState) : (s.leaveRun station).Tracked := by
  obtain ⟨runs, records⟩ := forceRuns_within (e := s.trackEnv)
    (t := { tracker := s.tracker, marker := s.marker, alert := s.alert }) h.trailing.runs
  exact .of_idle rfl runs records h.trailing.nominals

/-! ### The step lemma -/

/-- A change of the bus alone leaves runs and records. -/
theorem State.Tracked.of_bus {s t : State} (h : s.resetn = true → s.Paced ∧ s.Tracked) (changed : ∃ bus, t = { s with bus })
    (paced : s.Paced → t.Paced) (high : t.resetn = true) : t.Paced ∧ t.Tracked := by
  obtain ⟨bus, rfl⟩ := changed
  obtain ⟨own, tracked⟩ := h high
  exact ⟨paced own, tracked.frame rfl rfl rfl rfl⟩

/-- Every update of the state keeps the bounds of runs and records while RESETN is high, together with pacing and bus. -/
theorem keeps_tracked : Keeps fun s => s.resetn = true → s.Paced ∧ s.Tracked := by
  have paced : ∀ {s : State}, (s.resetn = true → s.Paced ∧ s.Tracked) → s.resetn = true → s.Paced :=
    fun h high => (h high).1
  constructor
  case port => exact fun s port h high => ⟨keeps_paced.port s port (paced h) high, (h high).2.frame rfl rfl rfl rfl⟩
  case drawn | pending | bothLines | burst | elapse | conflict | recordOut | alert =>
    intros
    rename_i h high
    obtain ⟨own, tracked⟩ := h high
    exact ⟨own.frame rfl rfl rfl rfl rfl, tracked.frame rfl rfl rfl rfl⟩
  case runOut =>
    intro s h high
    obtain ⟨own, ⟨trailing, inactive⟩⟩ := h high
    exact ⟨own.frame rfl rfl rfl rfl rfl, ⟨trailing.ascending, trailing.reached, trailing.values, trailing.nominals,
      trailing.runs.runs, fun r held => trailing.runs.records r (List.mem_of_mem_drop held)⟩, inactive⟩
  case crcError => exact fun s h high => ⟨keeps_paced.crcError s (paced h) high, (h high).2.frame rfl rfl rfl rfl⟩
  case duplicate => exact fun s h high => ⟨keeps_paced.duplicate s (paced h) high, (h high).2.frame rfl rfl rfl rfl⟩
  case edge => exact fun line s h high => ⟨(h high).1.edge line, (h high).2.frame rfl rfl rfl rfl⟩
  case idleGap => exact fun s h high => ⟨(h high).1.idleGap, (h high).2.frame rfl rfl rfl rfl⟩
  case lose => exact fun bit s h => State.Tracked.of_bus h (s.loseArbitration_frame bit) fun own => own.loseArbitration bit
  case abort => exact fun bit s h => State.Tracked.of_bus h (s.abortFrame_frame bit) fun own => own.abortFrame bit
  case sampleSent => exact fun s h => State.Tracked.of_bus h s.sampleSent_frame State.Paced.sampleSent
  case markSent =>
    intro s h high
    obtain ⟨own, tracked⟩ := h (s.markSent_resetn ▸ high)
    exact ⟨own.markSent, tracked.markSent own⟩
  case adoptMark =>
    intro n s receives armed may h high
    obtain ⟨-, -, rise⟩ := (s.mayAdopt_iff n).1 may
    exact ⟨keeps_paced.adoptMark n s receives armed may (paced h) high,
      ((h high).2.trailing.adoptMark rise).tracked rfl rfl⟩
  case takeSample =>
    intro sender n x s receives armed first top peer range h high
    obtain ⟨own, tracked⟩ := h (s.takeSample_resetn sender n x ▸ high)
    exact ⟨keeps_paced.takeSample sender n x s receives armed first top peer range (paced h) high,
      tracked.takeSample armed sender n range⟩
  case holdReset => exact fun s h high => nomatch high
  case powerOn =>
    exact fun a b c s h high => ⟨keeps_paced.powerOn a b c s (paced h) high,
      .of_idle rfl Tracker.initial_runs (List.forall_mem_nil _) nofun⟩
  case endSelfTest =>
    intro failed s test h high
    have tracked := (h high).2
    exact ⟨keeps_paced.endSelfTest failed s test (paced h) high,
      .of_idle rfl (tracked.inactive (by simp [State.armed, test])) (List.forall_mem_nil _) tracked.trailing.nominals⟩
  case accept =>
    intro b s station judged length h high
    exact ⟨keeps_paced.accept b s station judged length (paced h) high,
      (h high).2.reconfigured (by simp [State.armed, station]) rfl rfl rfl (effective_nominals b)⟩
  case refuse =>
    intro b s station h high
    have tracked := (h high).2
    exact ⟨keeps_paced.refuse b s station (paced h) high,
      tracked.reconfigured (by simp [State.armed, station]) rfl rfl rfl tracked.trailing.nominals⟩
  case arm =>
    exact fun s station h high => ⟨keeps_paced.arm s station (paced h) high,
      .of_idle rfl Tracker.initial_runs (List.forall_mem_nil _) (h high).2.trailing.nominals⟩
  case disarm =>
    exact fun s armed h high => ⟨keeps_paced.disarm s armed (paced h) high, (h high).2.leaveRun .configured⟩
  case resync =>
    exact fun s armed h high => ⟨keeps_paced.resync s armed (paced h) high,
      ((h high).2.leaveRun .joining).frame rfl rfl rfl rfl⟩

/-- Settles O59: runs end before the rows that are still to be evaluated, so that a record only extends a run forward, and
every update keeps this together with pacing and bus. -/
theorem stepKeepsTheRuns : Obligations.StepKeepsTheRuns := by
  intro s t inv next high
  obtain ⟨-, tracked⟩ := keeps_tracked.step s t (fun on => ⟨inv.paced on, inv.tracked on⟩) next high
  exact tracked.trackerOk

end Sys2Proof.Machine
end

section
/-! Answering a marking request (R155, R156) and the order of the marker queue (R157). -/

namespace Sys2Proof.Machine

/-! ### The answer to a request -/

/-- A nozzle that is not fitted receives no request (R154). -/
theorem requestMark_unfitted {e : TrackEnv} {x : Nozzle} (unfitted : e.cfg.nozzle x = none) (target : Int) (t : Tracks) :
    requestMark e x target t = (.none, t) := by
  rw [requestMark, unfitted]

/-- The answer decides what becomes of queue and edges. -/
theorem requestMark_of_answer {e : TrackEnv} {x : Nozzle} {n : NozzleConfig} (fitted : e.cfg.nozzle x = some n)
    {target : Int} {t : Tracks} {answer : MarkOutcome} (answered : markAnswer e.cfg e.current x n target t.marker = answer) :
    requestMark e x target t = (answer, { t with marker := markQueue e.cfg x n target answer t.marker
                                                 alert := t.alert.raiseIf (raisesMark answer) markEdge }) := by
  rw [requestMark, fitted, ← answered]

section

variable {c : StationConfig} {current : Nat} {x : Nozzle} {n : NozzleConfig} {target : Int} {m : Marker}

/-- The nozzle's action for the due post is queued already. -/
theorem any_same_action_iff {due : Int} {queue : List MarkAction} :
    (queue.any fun a => a.nozzle == x && (a.due : Int) == due) = true ↔ ∃ a ∈ queue, a.nozzle = x ∧ (a.due : Int) = due := by
  simp only [List.any_eq_true, Bool.and_eq_true, beq_iff_eq]

theorem markAnswer_of_passed (passed : duePost c n target ≤ current) : markAnswer c current x n target m = .tooLate :=
  if_pos passed

variable (ahead : (current : Int) < duePost c n target)
include ahead

theorem markAnswer_of_queued (queued : ∃ a ∈ m.queue, a.nozzle = x ∧ (a.due : Int) = duePost c n target) :
    markAnswer c current x n target m = .merged :=
  (if_neg (Int.not_le.2 ahead)).trans (if_pos (any_same_action_iff.2 queued))

variable (new : ¬ ∃ a ∈ m.queue, a.nozzle = x ∧ (a.due : Int) = duePost c n target)
include new

/-- An action that is still to be queued is dropped beyond the highest index. -/
theorem markAnswer_of_beyond (beyond : (maxPost : Int) < duePost c n target) :
    markAnswer c current x n target m = .dropped :=
  (if_neg (Int.not_le.2 ahead)).trans <| (if_neg (mt any_same_action_iff.1 new)).trans (if_pos beyond)

variable (within : duePost c n target ≤ maxPost)
include within

theorem markAnswer_of_full (full : 16 ≤ m.queue.length) : markAnswer c current x n target m = .dropped :=
  (if_neg (Int.not_le.2 ahead)).trans <| (if_neg (mt any_same_action_iff.1 new)).trans <|
    (if_neg (Int.not_lt.2 within)).trans (if_pos full)

theorem markAnswer_of_room (room : ¬ 16 ≤ m.queue.length) : markAnswer c current x n target m = .scheduled :=
  (if_neg (Int.not_le.2 ahead)).trans <| (if_neg (mt any_same_action_iff.1 new)).trans <|
    (if_neg (Int.not_lt.2 within)).trans (if_neg room)

end

/-! ### The order of the marker queue -/

theorem actionBefore_iff (a b : MarkAction) :
    actionBefore a b = true ↔ a.due < b.due ∨ (a.due = b.due ∧ a.nozzle = .left ∧ b.nozzle = .right) := by
  simp [actionBefore, and_assoc]

theorem actionBefore_trans {a b c : MarkAction} (ab : actionBefore a b = true) (bc : actionBefore b c = true) :
    actionBefore a c = true := by
  rw [actionBefore_iff] at *
  rcases ab with earlier | ⟨same, left, right⟩
  · left; omega
  · rcases bc with earlier | ⟨_, left', _⟩
    · left; omega
    · exact nomatch right.symm.trans left'

/-- Of two different actions one is before the other. -/
theorem actionBefore_of_not {a b : MarkAction} (different : a ≠ b) (not_before : ¬ actionBefore a b = true) :
    actionBefore b a = true := by
  obtain ⟨due, nozzle⟩ := a
  obtain ⟨due', nozzle'⟩ := b
  rw [actionBefore_iff] at *
  rcases Nat.lt_trichotomy due due' with earlier | rfl | later
  · exact absurd (.inl earlier) not_before
  · right
    match nozzle, nozzle' with
    | .left, .left | .right, .right => exact absurd rfl different
    | .left, .right => exact absurd (.inr ⟨rfl, rfl, rfl⟩) not_before
    | .right, .left => exact ⟨rfl, rfl, rfl⟩
  · exact .inl later

theorem insertAction_perm (a : MarkAction) (queue : List MarkAction) : (insertAction a queue).Perm (a :: queue) := by
  induction queue with
  | nil => exact List.Perm.refl _
  | cons b rest ih =>
    rw [insertAction]
    split
    · exact List.Perm.refl _
    · exact (ih.cons b).trans (List.Perm.swap a b rest)

/-- A new action finds its place: it stands before the first action that it is before, and so before all behind it. -/
theorem insertAction_ordered {a : MarkAction} {queue : List MarkAction}
    (ordered : queue.Pairwise fun a b => actionBefore a b = true) (new : a ∉ queue) :
    (insertAction a queue).Pairwise fun a b => actionBefore a b = true := by
  induction queue with
  | nil => exact List.pairwise_singleton _ _
  | cons b rest ih =>
    obtain ⟨first, ordered'⟩ := List.pairwise_cons.1 ordered
    obtain ⟨different, new'⟩ := not_or.1 (mt List.mem_cons.2 new)
    rw [insertAction]
    split
    next before =>
      refine List.pairwise_cons.2 ⟨List.forall_mem_cons.2 ⟨before, fun y hy => ?_⟩, ordered⟩
      exact actionBefore_trans before (first y hy)
    next not_before =>
      refine List.pairwise_cons.2 ⟨fun y hy => ?_, ih ordered' new'⟩
      rcases List.mem_cons.1 ((insertAction_perm a rest).mem_iff.1 hy) with rfl | held
      · exact actionBefore_of_not different not_before
      · exact first y held

/-- Settles O37: each condition of R155 fixes the answer, the answer fixes queue and edges, and a new action is inserted at
its place in the order. -/
theorem markingRequestIsAnsweredInOrder : Obligations.MarkingRequestIsAnsweredInOrder := by
  refine ⟨fun e x target t => ⟨fun unfitted => requestMark_unfitted unfitted target t, fun n fitted => ?_⟩, ?_⟩
  · exact ⟨fun passed => requestMark_of_answer fitted (markAnswer_of_passed passed),
      fun ahead queued => requestMark_of_answer fitted (markAnswer_of_queued ahead queued),
      fun ahead new beyond => requestMark_of_answer fitted (markAnswer_of_beyond ahead new beyond),
      fun ahead new within full => requestMark_of_answer fitted (markAnswer_of_full ahead new within full),
      fun ahead new within room => requestMark_of_answer fitted (markAnswer_of_room ahead new within room)⟩
  · intro a queue before ordered new
    have same : before = fun a b => actionBefore a b = true := by
      funext a b
      exact propext (actionBefore_iff a b).symm
    rw [same] at ordered ⊢
    exact ⟨insertAction_ordered ordered new, insertAction_perm a queue⟩

end Sys2Proof.Machine
end

section
/-! The step lemma for the marker queue and the valves: a request inserts an action ahead of the current post at its place, an
advance leaves those beyond the new post, and the end of a run empties the queue and closes the valves (R155, R157 to R160,
R164, R165). -/

namespace Sys2Proof.Machine

/-! ### Pulses and valves -/

/-- The pulse of each fitted nozzle takes time (R154). -/
def StationConfig.PulsesTakeTime (c : StationConfig) : Prop := ∀ x n, c.nozzle x = some n → 1 ≤ n.pulse

theorem nozzleField_pulse {b : List Byte} {x : Nozzle} {n : NozzleConfig} (fitted : nozzleField b x = some n) :
    1 ≤ n.pulse := by
  simp only [nozzleField] at fitted
  split at fitted
  · exact nomatch fitted
  · cases fitted
    exact Nat.le_max_left _ _

theorem effective_pulses (b : List Byte) : (effective b).PulsesTakeTime := fun
  | .left, _, fitted => nozzleField_pulse fitted
  | .right, _, fitted => nozzleField_pulse fitted

/-- A valve that an action fires has time left (R160). -/
theorem firedValve_ne_expired {c : StationConfig} (pulses : c.PulsesTakeTime) (x : Nozzle) {v : Valve}
    (h : v ≠ .opened 0) : firedValve c x v ≠ .opened 0 := by
  rw [firedValve]
  split
  · exact h
  next n fitted =>
    have takes_time : 1 ≤ n.pulse := pulses x n fitted
    intro expired
    have none_left : n.pulse * 10000 = 0 := Valve.opened.inj expired
    omega

/-- A valve closes when its remaining time reaches 0 (R160). -/
theorem Valve.after_ne_expired (n : Nat) (v : Valve) : v.after n ≠ .opened 0 := by
  cases v with
  | closed => exact nofun
  | opened r =>
    rw [Valve.after]
    split
    · exact nofun
    next remains =>
      intro expired
      have none_left : r - n = 0 := Valve.opened.inj expired
      omega

/-! ### The marker -/

/-- The queue is in its order, its actions are ahead of post `p` and for fitted nozzles, and an OPEN valve has time left
(R155, R157, R160). -/
structure Marker.Sound (c : StationConfig) (p : Nat) (m : Marker) : Prop where
  ordered : m.queue.Pairwise fun a b => actionBefore a b = true
  ahead : ∀ a ∈ m.queue, p < a.due ∧ a.due ≤ maxPost ∧ (c.nozzle a.nozzle).isSome = true
  remaining : m.left ≠ .opened 0 ∧ m.right ≠ .opened 0

namespace Marker.Sound

variable {c : StationConfig} {p : Nat} {m : Marker}

/-- A marker at rest is sound at any post and for any configuration. -/
theorem of_rest (queue : m.queue = []) (left : m.left = .closed) (right : m.right = .closed) : m.Sound c p where
  ordered := queue ▸ List.Pairwise.nil
  ahead := queue ▸ List.forall_mem_nil _
  remaining := by rw [left, right]; exact ⟨nofun, nofun⟩

/-- An advance to post `n`, from whatever post, leaves the actions beyond `n` (R158, R159). -/
theorem advance (h : m.Sound c p) (pulses : c.PulsesTakeTime) (n : Nat) : (m.advance c n).Sound c n where
  ordered := h.ordered.filter _
  ahead a held := by
    obtain ⟨queued, beyond⟩ := List.mem_filter.1 held
    obtain ⟨-, top, fitted⟩ := h.ahead a queued
    exact ⟨of_decide_eq_true beyond, top, fitted⟩
  remaining := by
    obtain ⟨left, right⟩ := h.remaining
    have fired : ∀ (due : Bool) x v, v ≠ Valve.opened 0 → (if due = true then firedValve c x v else v) ≠ .opened 0 := by
      intro due x v has_time
      split
      · exact firedValve_ne_expired pulses x has_time
      · exact has_time
    exact ⟨fired _ _ _ left, fired _ _ _ right⟩

/-- While time passes only the valves move (R160). -/
theorem elapse (h : m.Sound c p) (n : Nat) : Marker.Sound c p { m with left := m.left.after n, right := m.right.after n } :=
  ⟨h.ordered, h.ahead, Valve.after_ne_expired n _, Valve.after_ne_expired n _⟩

/-- A request leaves the queue as it is, or inserts an action ahead of the current post for a fitted nozzle (R155). -/
theorem request {e : TrackEnv} {t : Tracks} (h : t.marker.Sound e.cfg e.current) (x : Nozzle) (target : Int) :
    (requestMark e x target t).2.marker.Sound e.cfg e.current := by
  obtain ⟨queue, edges, frame⟩ := requestMark_frame e x target t
  have changes := requestMark_queue e x target t
  rw [frame] at changes ⊢
  obtain rfl | ⟨due, rfl, ahead, top, fitted, -, new⟩ := changes
  · exact ⟨h.ordered, h.ahead, h.remaining⟩
  · refine ⟨insertAction_ordered h.ordered new, fun a held => ?_, h.remaining⟩
    rcases List.mem_cons.1 ((insertAction_perm _ _).mem_iff.1 held) with rfl | queued
    · exact ⟨ahead, top, fitted⟩
    · exact h.ahead a queued

/-- The evaluation of a record reaches the marker by requests alone. -/
theorem closed (e : TrackEnv) : Tracks.Closed e fun t => t.marker.Sound e.cfg e.current where
  runs _ _ h := h
  edges _ _ h := h
  request _ x target h := h.request x target
  spike _ h := h
  keep _ _ _ _ h := h

/-- Rows that retire reach the marker by the evaluation of their records alone (R83). -/
theorem retireWhile {e : TrackEnv} {f : Flow} (h : f.tracks.marker.Sound e.cfg e.current) (leaves : Row → Bool)
    (rows : List Row) : (retireWhile e leaves rows f).tracks.marker.Sound e.cfg e.current :=
  retireWhile_keeps (P := fun f => f.tracks.marker.Sound e.cfg e.current) e leaves (fun _ _ h => h)
    (fun _ _ h => (closed e).record _ _ h) rows f h

end Marker.Sound

/-! ### The marker of a station -/

/-- The marker is sound at the current post, and at rest outside JOINING and RUNNING; pulses take time (R154, R157, R164). -/
structure State.Marking (s : State) : Prop where
  sound : s.marker.Sound s.cfg s.post
  rest : s.armed = false → s.marker.queue = [] ∧ s.marker.left = .closed ∧ s.marker.right = .closed
  pulses : s.cfg.PulsesTakeTime

theorem State.Marking.markerOk {s : State} (h : s.Marking) : s.MarkerOk :=
  ⟨h.sound.ordered, h.sound.ahead, h.rest, h.sound.remaining⟩

theorem State.Inv.marking {s : State} (h : s.Inv) (high : s.resetn = true) : s.Marking := by
  obtain ⟨ordered, ahead, rest, remaining⟩ := h.marker high
  refine ⟨⟨ordered, ahead, remaining⟩, rest, ?_⟩
  rw [State.cfg, (h.control high).config]
  cases s.control.block with
  | none => exact fun | .left => nofun | .right => nofun
  | some b => exact effective_pulses b

/-- A change outside marker, control block and current post. -/
theorem State.Marking.frame {s t : State} (h : s.Marking) (marker : t.marker = s.marker) (control : t.control = s.control)
    (post : t.post = s.post) : t.Marking := by
  have cfg : t.cfg = s.cfg := by rw [State.cfg, control, State.cfg]
  have armed : t.armed = s.armed := by rw [State.armed, control, State.armed]
  exact ⟨by rw [marker, cfg, post]; exact h.sound, by rw [armed, marker]; exact h.rest, cfg ▸ h.pulses⟩

/-- A station whose marker is at rest. -/
theorem State.Marking.of_rest {s : State} (queue : s.marker.queue = []) (left : s.marker.left = .closed)
    (right : s.marker.right = .closed) (pulses : s.cfg.PulsesTakeTime) : s.Marking :=
  ⟨.of_rest queue left right, fun _ => ⟨queue, left, right⟩, pulses⟩

/-- A station whose marker is sound at its current post while pacing is active. -/
theorem State.Marking.of_armed {s : State} (sound : s.marker.Sound s.cfg s.post) (armed : s.armed = true)
    (pulses : s.cfg.PulsesTakeTime) : s.Marking :=
  ⟨sound, fun idle => absurd (armed.symm.trans idle) nofun, pulses⟩

/-- The window's tests leave the marker sound, whatever rows it holds (R72, R80). -/
theorem State.Marking.retiring {s : State} (h : s.Marking) (armed : s.armed = true) (leaves : Row → Bool) :
    (s.retiring leaves).Marking :=
  .of_armed (Marker.Sound.retireWhile (e := s.trackEnv) (f := s.flow) h.sound leaves _) armed h.pulses

/-- At the post advance the marker comes first, so that the rows that retire ask a marker ahead of the new post (R22, R159). -/
theorem State.postAdvance_marking {s : State} {p n : Nat} (sound : s.marker.Sound s.cfg p) (pulses : s.cfg.PulsesTakeTime)
    (post : s.post = n) (armed : s.armed = true) : (s.postAdvance n).Marking := by
  let t : State := { s.advanceMarker n with bus := (s.advanceMarker n).bus.shed s.cfg.depth n }
  have advanced : t.marker.Sound t.cfg t.post := post ▸ sound.advance pulses n
  exact (State.Marking.of_armed advanced armed pulses).retiring armed _

namespace State.Marking

variable {s : State} (h : s.Marking)
include h

theorem elapse (n : Nat) : (s.elapse n).Marking := by
  refine ⟨h.sound.elapse n, fun idle => ?_, h.pulses⟩
  obtain ⟨queue, left, right⟩ := h.rest idle
  exact ⟨queue, congrArg (Valve.after n) left, congrArg (Valve.after n) right⟩

theorem openRow (armed : s.armed = true) (row : Row) : (s.openRow row).Marking :=
  State.Marking.retiring (s := { s with window := { s.window with rows := s.window.rows ++ [row] } })
    (h.frame rfl rfl rfl) armed Row.isReady

theorem storeSample (armed : s.armed = true) (sender : Fin 8) (n : Nat) (x : Sample) : (s.storeSample sender n x).Marking :=
  State.Marking.retiring (s := { s with window := { s.window with rows := storeIn s.cfg sender n x s.window.rows } })
    (h.frame rfl rfl rfl) armed Row.isReady

theorem latch (armed : s.armed = true) (n skipped : Nat) : (s.latch n skipped).Marking :=
  (State.Marking.openRow (s := s.closeInterval n) (h.frame rfl rfl rfl) armed
    (latchedRow s.cfg n skipped (s.latchSpeed n) s.localQuantities)).frame rfl rfl rfl

/-- A post taken from a peer, up to the post advance (R15, R20, R22). -/
theorem takeIndex (n : Nat) : ((s.takeIndex n).postAdvance n).Marking :=
  State.postAdvance_marking (s := s.takeIndex n) h.sound h.pulses rfl rfl

theorem adoptMark (n : Nat) : (s.adoptMark n).Marking := (h.takeIndex n).latch rfl n _

theorem adoptSilently (n : Nat) : (s.adoptSilently n).Marking := (h.takeIndex n).openRow rfl _

theorem completeMark (k : Nat) : (s.completeMark k).Marking := by
  let t : State := State.enterPost k { s with odo := { s.odo with acc := clampAcc (s.odo.acc - pitch) } }
  have advanced : (t.postAdvance k).Marking := State.postAdvance_marking h.sound h.pulses rfl rfl
  exact (advanced.latch rfl k 0).frame rfl rfl rfl

theorem markSent : s.markSent.Marking := by
  rw [State.markSent]
  split
  · let t : State := { s with bus := { s.bus.frameSent with slot := none } }
    have sent : t.Marking := h.frame rfl rfl rfl
    exact sent.completeMark _
  · exact h.frame rfl rfl rfl
  · exact h

/-- The four cases of a delivered sample (R76). -/
theorem takeSample (armed : s.armed = true) (sender : Fin 8) (n : Nat) (x : Sample) : (s.takeSample sender n x).Marking := by
  rw [State.takeSample]
  split
  · exact (h.adoptSilently n).storeSample rfl sender n x
  · split
    · split
      · exact h.storeSample armed sender n x
      · exact h.frame rfl rfl rfl
    · exact h.frame rfl rfl rfl

/-- A station that pacing is inactive for may take any configuration whose pulses take time. -/
theorem reconfigured {t : State} (idle : s.armed = false) (marker : t.marker = s.marker)
    (pulses : t.cfg.PulsesTakeTime) : t.Marking := by
  obtain ⟨queue, left, right⟩ := h.rest idle
  exact .of_rest (marker ▸ queue) (marker ▸ left) (marker ▸ right) pulses

end State.Marking

/-! ### The step lemma -/

/-- A change of the bus alone leaves the marker. -/
theorem State.Marking.of_bus {s t : State} (h : s.resetn = true → s.Marking) (changed : ∃ bus, t = { s with bus })
    (high : t.resetn = true) : t.Marking := by
  obtain ⟨bus, rfl⟩ := changed
  exact (h high).frame rfl rfl rfl

/-- Every update of the state keeps the marker sound while RESETN is high. -/
theorem keeps_marking : Keeps fun s => s.resetn = true → s.Marking := by
  constructor
  case port => exact fun s port h high => (h high).frame rfl rfl rfl
  case drawn | pending | edge | bothLines | burst | idleGap | conflict | crcError | duplicate | recordOut | runOut | alert =>
    intros
    rename_i h high
    exact (h high).frame rfl rfl rfl
  case elapse => exact fun n s h high => (h high).elapse n
  case lose => exact fun bit s h => State.Marking.of_bus h (s.loseArbitration_frame bit)
  case abort => exact fun bit s h => State.Marking.of_bus h (s.abortFrame_frame bit)
  case sampleSent => exact fun s h => State.Marking.of_bus h s.sampleSent_frame
  case markSent => exact fun s h high => (h (s.markSent_resetn ▸ high)).markSent
  case adoptMark => exact fun n s _ _ _ h high => (h high).adoptMark n
  case takeSample =>
    intro sender n x s _ armed _ _ _ _ h high
    exact (h (s.takeSample_resetn sender n x ▸ high)).takeSample armed sender n x
  case holdReset => exact fun s h high => nomatch high
  case powerOn => exact fun a b c s h high => .of_rest rfl rfl rfl fun | .left => nofun | .right => nofun
  case endSelfTest =>
    intro failed s test h high
    obtain ⟨-, left, right⟩ := (h high).rest (by simp [State.armed, test])
    exact .of_rest rfl left right (h high).pulses
  case accept =>
    exact fun b s station _ _ h high =>
      (h high).reconfigured (by simp [State.armed, station]) rfl (effective_pulses b)
  case refuse => exact fun b s station h high =>
      (h high).reconfigured (by simp [State.armed, station]) rfl (h high).pulses
  case arm | disarm | resync =>
    intros
    rename_i h high
    exact .of_rest rfl rfl rfl (h high).pulses

/-- Settles O58: the queue is kept in order by insertion and ahead of the current post by the advance, and every update that
ends a run leaves the marker at rest. -/
theorem stepKeepsTheMarkerQueue : Obligations.StepKeepsTheMarkerQueue := fun s t inv next high =>
  (keeps_marking.step s t inv.marking next high).markerOk

end Sys2Proof.Machine
end

section
/-! POWER_ON_RESET and the hold while RESETN is low (R164, R181, R195). -/

namespace Sys2Proof.Machine

/-- Every command but those of the reset line acts only with RESETN high (R181). -/
theorem exec_powered {c : Instr} (notReset : c ≠ .powerOnReset) (notRelease : ∀ l d, c ≠ .resetnRelease l d) (s : State) :
    ∃ f, exec c s = .next (s.powered f) := by
  cases c
  case powerOnReset => exact absurd rfl notReset
  case resetnRelease l d => exact absurd rfl (notRelease l d)
  all_goals exact ⟨_, rfl⟩

/-- While RESETN is low ALERT is released, the valve outputs are closed, and neither bus nor RDO is driven (R164, R181). -/
theorem State.outputs_low {s : State} (low : s.resetn = false) :
    s.alertLine = false ∧ s.vlvl = false ∧ s.vlvr = false ∧ s.busBits = none ∧ ∀ k, s.rdo k = none := by
  simp [State.alertLine, State.vlvl, State.vlvr, State.busBits, State.rdo, low]

/-- Settles O4: the command makes the station hold, and a station that holds shows nothing and takes nothing. -/
theorem powerOnResetMakesSafeAndHolds : Obligations.PowerOnResetMakesSafeAndHolds := by
  refine fun s => ⟨rfl, fun low => ⟨State.outputs_low low, fun c notReset notRelease => ?_⟩⟩
  obtain ⟨f, eq⟩ := exec_powered notReset notRelease s
  rw [eq, State.powered_low low]

end Sys2Proof.Machine
end

section
/-! The Alert Controller's sets (R167 to R173): the pending set bit by bit, the eligible set, ALERT, the most
urgent source. -/

namespace Sys2Proof.Machine

/-! ### The pending set -/

/-- Bits 0 to 3 of the pending set are the edges as raised (R167, R168). -/
theorem State.pendingSet_edge (s : State) {i : Nat} (edge : i < 4) :
    s.pendingSet.getLsbD i = s.alert.edges.getLsbD i := by
  rw [State.pendingSet, BitVec.getLsbD_append, if_pos edge]

/-- Bits 5 to 7 of the pending set, above STALE, are RESULTS, RUNS and BUS (R167, R169). -/
theorem State.pendingSet_levels (s : State) :
    s.pendingSet.getLsbD 5 = s.resultsLevel ∧ s.pendingSet.getLsbD 6 = s.runsLevel ∧
      s.pendingSet.getLsbD 7 = s.busLevel := by
  simp only [State.pendingSet, BitVec.getLsbD_append]
  exact (by decide : ∀ a b c d : Bool,
    let levels := BitVec.ofBoolListLE [a, b, c, d]
    levels.getLsbD 1 = b ∧ levels.getLsbD 2 = c ∧ levels.getLsbD 3 = d) _ _ _ _

theorem State.staleLevel_iff (s : State) :
    s.staleLevel = true ↔ (s.control.station = .joining ∨ s.control.station = .running) ∧
      ∃ age, s.sensor.age = some age ∧ 1000 * s.cfg.staleMs < age := by
  rw [State.staleLevel, Bool.and_eq_true, s.armed_iff, State.staleLimit, Nat.mul_comm]
  cases s.sensor.age <;> simp

theorem State.resultsLevel_iff (s : State) :
    s.resultsLevel = true ↔ ∃ c, s.control.config = some c ∧ c.watermark ≤ s.results.fifo.length := by
  rw [State.resultsLevel]
  cases s.control.config <;> simp

theorem State.runsLevel_iff (s : State) : s.runsLevel = true ↔ s.tracker.queue ≠ [] := by
  simp [State.runsLevel]

theorem State.busLevel_iff (s : State) :
    s.busLevel = true ↔ s.bus.mode = .listenOnly ∨ s.bus.duplicate = true ∨ s.odo.tachFault = true := by
  simp [State.busLevel, or_assoc]

/-! ### The eligible set and ALERT -/

/-- The rule of the present mode (R172). -/
theorem Alert.allows_iff (a : Alert) (i : Fin 8) :
    a.allows i = true ↔
      if a.specialMask = true then ¬ a.inService.getLsbD i = true
      else ∀ j : Fin 8, a.inService.getLsbD j = true → i < j := by
  cases special : a.specialMask with
  | true => simp [Alert.allows, special, inSet]
  | false =>
    simp only [Alert.allows, special, Bool.false_eq_true, if_false, eight_all]
    exact forall_congr' fun j => by simp [inSet, imp_iff_not_or]

/-- A source is eligible when it is pending, not masked and allowed (R172). -/
theorem State.eligibleSet_iff (s : State) (i : Fin 8) :
    s.eligibleSet.getLsbD i = true ↔
      s.pendingSet.getLsbD i = true ∧ s.alert.mask.getLsbD i = false ∧ s.alert.allows i = true := by
  simp only [State.eligibleSet, getLsbD_setWhere, inSet, Bool.and_eq_true, Bool.not_eq_true', and_assoc]

/-- With RESETN high ALERT is asserted exactly when the eligible set is not empty (R173). -/
theorem State.alertLine_iff {s : State} (high : s.resetn = true) :
    s.alertLine = true ↔ ∃ i : Fin 8, s.eligibleSet.getLsbD i = true := by
  rw [State.alertLine, high, Bool.true_and, bne_iff_ne, ne_eq, eq_zero_iff_inSet, not_forall_not]
  rfl

/-- Settles O38: bit by bit for the pending set; the eligible set and ALERT by their lemmas. -/
theorem alertIsAssertedWhenASourceIsEligible : Obligations.AlertIsAssertedWhenASourceIsEligible := by
  intro s pending served allowed eligible
  obtain ⟨results, runs, bus⟩ := s.pendingSet_levels
  have pending_iff : ∀ i : Fin 8, s.pendingSet.getLsbD i = true ↔ pending i
    | 0 => Bool.eq_iff_iff.1 (s.pendingSet_edge (by decide))
    | 1 => Bool.eq_iff_iff.1 (s.pendingSet_edge (by decide))
    | 2 => Bool.eq_iff_iff.1 (s.pendingSet_edge (by decide))
    | 3 => Bool.eq_iff_iff.1 (s.pendingSet_edge (by decide))
    | 4 => (Bool.eq_iff_iff.1 s.pendingSet_stale).trans s.staleLevel_iff
    | 5 => (Bool.eq_iff_iff.1 results).trans s.resultsLevel_iff
    | 6 => (Bool.eq_iff_iff.1 runs).trans s.runsLevel_iff
    | 7 => (Bool.eq_iff_iff.1 bus).trans s.busLevel_iff
  have eligible_iff : ∀ i : Fin 8, s.eligibleSet.getLsbD i = true ↔ eligible i := fun i => by
    rw [s.eligibleSet_iff, pending_iff, s.alert.allows_iff]
  exact ⟨pending_iff, eligible_iff, fun high => (State.alertLine_iff high).trans (exists_congr eligible_iff)⟩

/-! ### The most urgent source -/

/-- The lowest number of a set is the one that it holds with none below it (R167). -/
theorem lowest_eq_some {b : Byte} {i : Fin 8} (held : b.getLsbD i = true) (first : ∀ j < i, b.getLsbD j = false) :
    lowest b = some i := by
  have place : ∀ k : Fin 8, eight[k.val]'k.isLt = k := by decide
  refine List.find?_eq_some_iff_getElem.2 ⟨held, i.val, i.isLt, place i, fun k below => ?_⟩
  have at_k : eight[k]'(below.trans i.isLt) = ⟨k, below.trans i.isLt⟩ := place ⟨k, below.trans i.isLt⟩
  exact congrArg not ((congrArg (inSet b) at_k).trans (first _ below))

/-- A set that holds none of the eight numbers has no lowest (R167). -/
theorem lowest_eq_none {b : Byte} (empty : ∀ i : Fin 8, b.getLsbD i = false) : lowest b = none :=
  List.find?_eq_none.2 fun i _ => Bool.eq_false_iff.1 (empty i)

/-- The set of one number. -/
theorem only_eq (i : Fin 8) : only i = 1#8 <<< i.val := by revert i; decide

/-- Clearing source `i` clears bit `i` of the edges, and nothing when `i` is a level (R178). -/
theorem Alert.clearEdge_eq (i : Fin 8) (a : Alert) :
    a.clearEdge i = { a with edges := a.edges &&& ~~~(1#4 <<< i.val) } := by
  have narrow : (only i).setWidth 4 = 1#4 <<< i.val := by revert i; decide
  rw [Alert.clearEdge, narrow]

end Sys2Proof.Machine
end

section
/-! The commands of the Alert Controller (R170, R174 to R178): each is taken whole, and its answer replaces the
controller alone. -/

namespace Sys2Proof.Machine

/-! ### Taking a command that replaces the controller -/

/-- An answer that replaces the Alert Controller, outside SELF_TEST and FAULT: the controller and the port change alone,
and no history window is left (R196, R202). -/
theorem State.takesTransactions.answers_alert {s : State} (h : s.takesTransactions)
    (test : s.control.station ≠ .selfTest) (fault : s.control.station ≠ .fault) {code : Byte} {params : List Byte}
    (whole : params.length = paramCount code) {body : List Byte → State → Reply × State} {a : Alert}
    {status : Status} {data : List Byte} {statusByte : Byte}
    (answer : body params (s.between none) = ({ status, data, shifting := .plain }, (s.between none).setAlert a))
    (coded : statusCode status = statusByte) :
    (.next (s.powered (clockIn code params false fun p => gated false (body p))) : Host.Outcome State Fault Refusal) =
      .next ((s.setAlert a).answering (code :: params) (statusByte :: data) .plain none) := by
  rw [State.powered_high h.1, clockIn_whole h whole, takeCommand_open test fault, takeCommand_eq, ← coded]
  simp only [Bool.false_eq_true, if_false, answer]
  rfl

/-! ### ACKNOWLEDGE -/

theorem answerAcknowledge_of_none {s : State} (none_eligible : ∀ i : Fin 8, s.eligibleSet.getLsbD i = false) :
    answerAcknowledge s = (okWith [8], s) := by
  rw [answerAcknowledge, lowest_eq_none none_eligible]
  rfl

theorem answerAcknowledge_of_first {s : State} {i : Fin 8} (held : s.eligibleSet.getLsbD i = true)
    (first : ∀ j < i, s.eligibleSet.getLsbD j = false) :
    answerAcknowledge s = (okWith [u8 i], s.setAlert (s.alert.acknowledged i)) := by
  rw [answerAcknowledge, lowest_eq_some held first]
  rfl

theorem Alert.acknowledged_eq (i : Fin 8) (a : Alert) :
    a.acknowledged i = { a with
      edges := a.edges &&& ~~~(1#4 <<< i.val)
      inService := if a.autoEnd then a.inService else a.inService ||| (1#8 <<< i.val) } := by
  rw [Alert.acknowledged, Alert.clearEdge_eq, only_eq]

/-- Settles O39: by whether the eligible set has a lowest number. -/
theorem acknowledgeTakesTheMostUrgent : Obligations.AcknowledgeTakesTheMostUrgent := by
  refine fun s takes test fault => ⟨fun none_eligible => ?_, fun i held first => ?_⟩
  · exact takes.answers_alert test fault rfl (answerAcknowledge_of_none none_eligible) rfl
  · rw [← Alert.acknowledged_eq]
    exact takes.answers_alert test fault rfl (answerAcknowledge_of_first held first) rfl

/-! ### END_SERVICE -/

/-- END_SERVICE with the byte `which` may end source `i`: it is in service, and is the one named or, for 255, one that
special-mask mode does not pass over (R176). -/
def Alert.Endable (which : Byte) (a : Alert) (i : Fin 8) : Prop :=
  a.inService.getLsbD i = true ∧
    (which.toNat = i.val ∨ (which = 255#8 ∧ (a.specialMask = true → a.mask.getLsbD i = false)))

theorem sourceParam_of_eq {b : Byte} {i : Fin 8} (named : b.toNat = i.val) : sourceParam b = some i :=
  (dif_pos (lt_of_eq_of_lt named i.isLt)).trans (congrArg some (Fin.ext named))

theorem sourceParam_of_le {b : Byte} (names_none : 8 ≤ b.toNat) : sourceParam b = none :=
  dif_neg (Nat.not_lt.2 names_none)

/-- A named source is ended when it is in service (R176). -/
theorem Alert.serviceEnded_named {which : Byte} {i : Fin 8} (named : which.toNat = i.val) (a : Alert) :
    a.serviceEnded which = if a.inService.getLsbD i = true then some i else none := by
  rw [Alert.serviceEnded, sourceParam_of_eq named]
  rfl

/-- The sources among which a non-specific END_SERVICE takes the lowest (R176). -/
theorem Alert.endable_nonSpecific (a : Alert) (i : Fin 8) :
    (if a.specialMask then a.inService &&& ~~~a.mask else a.inService).getLsbD i = true ↔ a.Endable 255 i := by
  have names_none : ¬ 255 = i.val := by omega
  cases special : a.specialMask <;> simp [Alert.Endable, special, names_none]

/-- The source ended is the endable one of lowest number (R176). -/
theorem Alert.serviceEnded_eq_some {which : Byte} {a : Alert} {i : Fin 8} (ends : a.Endable which i)
    (first : ∀ j < i, ¬ a.Endable which j) : a.serviceEnded which = some i := by
  have ⟨served, named_or_lowest⟩ := ends
  obtain named | ⟨rfl, -⟩ := named_or_lowest
  · rw [Alert.serviceEnded_named named, if_pos served]
  · exact lowest_eq_some ((a.endable_nonSpecific i).2 ends) fun j below =>
      Bool.eq_false_iff.2 fun held => first j below ((a.endable_nonSpecific j).1 held)

/-- A byte that names a source, or 255, ends none when none is endable (R176). -/
theorem Alert.serviceEnded_eq_none {which : Byte} {a : Alert} (names : which.toNat < 8 ∨ which = 255#8)
    (none_ends : ∀ i, ¬ a.Endable which i) : a.serviceEnded which = none := by
  obtain named | rfl := names
  · rw [Alert.serviceEnded_named (i := ⟨_, named⟩) rfl, if_neg fun served => none_ends _ ⟨served, .inl rfl⟩]
  · exact lowest_eq_none fun j =>
      Bool.eq_false_iff.2 fun held => none_ends j ((a.endable_nonSpecific j).1 held)

/-- The byte of an endable source names one, or is 255. -/
theorem Alert.Endable.names {which : Byte} {a : Alert} {i : Fin 8} (ends : a.Endable which i) :
    which.toNat < 8 ∨ which = 255#8 :=
  ends.2.imp (fun named => lt_of_eq_of_lt named i.isLt) And.left

theorem answerEndService_of_bad {which : Byte} (names_none : 8 ≤ which.toNat) (not_lowest : which ≠ 255#8)
    (s : State) : answerEndService which s = (bare .badCommand, s) :=
  if_pos (by simpa [sourceParam_of_le names_none] using not_lowest)

/-- A byte that names a source, or 255, is not refused (R174). -/
theorem not_badSource {which : Byte} (names : which.toNat < 8 ∨ which = 255#8) :
    ¬ ((sourceParam which).isNone && which != 255) = true := by
  obtain named | rfl := names
  · simp [sourceParam_of_eq (i := ⟨_, named⟩) rfl]
  · decide

theorem answerEndService_of_none {which : Byte} (names : which.toNat < 8 ∨ which = 255#8) {s : State}
    (none_ends : ∀ i, ¬ s.alert.Endable which i) : answerEndService which s = (okWith [8], s) := by
  rw [answerEndService, if_neg (not_badSource names), Alert.serviceEnded_eq_none names none_ends]
  rfl

theorem answerEndService_of_first {which : Byte} {s : State} {i : Fin 8} (ends : s.alert.Endable which i)
    (first : ∀ j < i, ¬ s.alert.Endable which j) :
    answerEndService which s =
      (okWith [u8 i], s.setAlert { s.alert with inService := s.alert.inService &&& ~~~(1#8 <<< i.val) }) := by
  rw [answerEndService, if_neg (not_badSource ends.names), Alert.serviceEnded_eq_some ends first, ← only_eq]
  rfl

/-! ### CLEAR_PENDING -/

theorem answerClearPending_of_source {b : Byte} (names : b.toNat < 8) (s : State) :
    answerClearPending b s =
      (bare .ok, s.setAlert { s.alert with edges := s.alert.edges &&& ~~~(1#4 <<< b.toNat) }) := by
  simp only [answerClearPending, sourceParam_of_eq (i := ⟨_, names⟩) rfl, Alert.clearEdge_eq]

theorem answerClearPending_of_bad {b : Byte} (names_none : 8 ≤ b.toNat) (s : State) :
    answerClearPending b s = (bare .badCommand, s) := by
  rw [answerClearPending, sourceParam_of_le names_none]

/-- Settles O40: each command by what its answer makes of the controller; the answers of SET_MASK and SET_MODES are the
replaced controller as it stands. -/
theorem endServiceMaskModesAndClear : Obligations.EndServiceMaskModesAndClear := by
  refine ⟨fun which s takes test fault =>
      ⟨fun names_none not_lowest => ?_, fun names none_ends => ?_, fun i ends first => ?_⟩,
    fun b s takes test fault => ⟨?_, ?_, fun names => ?_, fun names_none => ?_⟩⟩
  · exact takes.answers_alert test fault rfl (answerEndService_of_bad names_none not_lowest _) rfl
  · exact takes.answers_alert test fault rfl (answerEndService_of_none names none_ends) rfl
  · exact takes.answers_alert test fault rfl (answerEndService_of_first ends first) rfl
  · exact takes.answers_alert test fault rfl rfl rfl
  · exact takes.answers_alert test fault rfl rfl rfl
  · exact takes.answers_alert test fault rfl (answerClearPending_of_source names _) rfl
  · exact takes.answers_alert test fault rfl (answerClearPending_of_bad names_none _) rfl

end Sys2Proof.Machine
end

section
/-! The judging of a configuration block: what each group accepts, byte by byte (R90, R91, R127, R154, R185, R186), and the
order of the groups (R189). -/

namespace Sys2Proof.Machine

/-! ### The check -/

/-- Two bytes are a field of sixteen bits when they give its number, the high byte first (R112). -/
theorem eq_be16_iff (high low : Byte) (x : Half) : [high, low] = be16 x ↔ 256 * high.toNat + low.toNat = x.toNat := by
  have := high.isLt
  have := low.isLt
  have := x.isLt
  simp only [be16, List.cons.injEq, and_true, ← BitVec.toNat_inj, BitVec.extractLsb'_toNat, Nat.shiftRight_eq_div_pow]
  omega

/-- The last two bytes of a block. -/
theorem drop_check {b : List Byte} (whole : b.length = 183) : b.drop 181 = [b.getD 181 0, b.getD 182 0] := by
  have last : ∀ {i : Nat}, i < 183 → b.drop i = b.getD i 0 :: b.drop (i + 1) := fun {i} lt => by
    rw [List.getD_eq_getElem b 0 (whole ▸ lt), List.drop_eq_getElem_cons]
  rw [last (by decide), last (by decide), List.drop_eq_nil_of_le (le_of_eq whole)]

theorem blockCheckOk_iff {b : List Byte} (whole : b.length = 183) :
    blockCheckOk b = true ↔ b.drop 181 = be16 (crcBytes (b.take 181)) := by
  rw [drop_check whole, eq_be16_iff, blockCheckOk, beq_iff_eq]
  rfl

/-! ### The groups -/

theorem identityOk_iff (b : List Byte) : identityOk b = true ↔ byteAt b 0 ≤ 7 := decide_eq_true_iff

/-- The edge distance is not 0 when one of its bytes is not. -/
theorem odometryOk_iff (b : List Byte) :
    odometryOk b = true ↔ (byteAt b 2 ≠ 0 ∨ byteAt b 3 ≠ 0) ∧ byteAt b 4 ≤ 1 := by
  simp only [odometryOk, Bool.and_eq_true, bne_iff_ne, decide_eq_true_eq, u16At, Nat.reduceAdd]
  omega

theorem chordOk_iff (b : List Byte) (i : Nat) :
    chordOk b i = true ↔ byteAt b (29 + 7 * i) ≤ 7 ∧ byteAt b (30 + 7 * i) ≤ 7 ∧
      byteAt b (29 + 7 * i) ≠ byteAt b (30 + 7 * i) ∧ byteAt b (29 + 7 * i) ≠ byteAt b 0 ∧
      byteAt b (30 + 7 * i) ≠ byteAt b 0 ∧ byteAt b (33 + 7 * i) ≤ 2 := by
  simp only [chordOk, chordAt_add, Bool.and_eq_true, decide_eq_true_eq, bne_iff_ne, and_assoc]
  rfl

/-- A twist entry is HISTORY, or PARTNER with another station (R91). -/
theorem twistOk_iff (b : List Byte) (i : Nat) :
    twistOk b i = true ↔ byteAt b (58 + 2 * i) = 1 ∨
      (byteAt b (58 + 2 * i) = 0 ∧ byteAt b (59 + 2 * i) ≤ 7 ∧ byteAt b (59 + 2 * i) ≠ byteAt b 0) := by
  have second : twistAt i + 1 = 59 + 2 * i := twistAt_add i 1
  simp only [twistOk, Bool.and_eq_true, Bool.or_eq_true, decide_eq_true_eq, beq_iff_eq, bne_iff_ne]
  rw [second, twistAt]
  omega

theorem planOk_iff (b : List Byte) :
    planOk b = true ↔ byteAt b 28 ≤ 4 ∧ (∀ i < byteAt b 28, chordOk b i = true) ∧ byteAt b 57 ≤ 2 ∧
      ∀ i < byteAt b 57, twistOk b i = true := by
  simp only [planOk, Bool.and_eq_true, decide_eq_true_eq, List.all_eq_true, List.mem_range, and_assoc]

/-- A tracked measure is GDEV, CANT, or a chord or twist of the plan (R127). -/
theorem measureOk_iff (b : List Byte) (i : Nat) :
    let code := byteAt b (63 + 13 * i)
    measureOk b i = true ↔ code = 0 ∨ code = 1 ∨ (2 ≤ code ∧ code ≤ 5 ∧ code - 1 ≤ byteAt b 28) ∨
      (6 ≤ code ∧ code ≤ 7 ∧ code - 5 ≤ byteAt b 57) := by
  simp only [measureOk, Bool.and_eq_true, Bool.or_eq_true, decide_eq_true_eq]
  rw [measureAt]
  omega

theorem trackingOk_iff (b : List Byte) :
    trackingOk b = true ↔ byteAt b 62 ≤ 8 ∧ ∀ i < byteAt b 62, measureOk b i = true := by
  simp only [trackingOk, Bool.and_eq_true, decide_eq_true_eq, List.all_eq_true, List.mem_range]

theorem nozzleOk_iff (b : List Byte) (x : Nozzle) :
    nozzleOk b x = true ↔
      byteAt b (nozzleAt x) = 0 ∨ (byteAt b (nozzleAt x) = 1 ∧ byteAt b (nozzleAt x + 3) ≤ 1) := by
  simp only [nozzleOk, Bool.and_eq_true, Bool.or_eq_true, beq_iff_eq, decide_eq_true_eq]

theorem markingOk_iff (b : List Byte) : markingOk b = true ↔ nozzleOk b .left = true ∧ nozzleOk b .right = true :=
  Bool.and_eq_true_iff

/-! ### The order of the groups -/

/-- The cause is that of the first group that is refused, in block order (R189). -/
theorem judgeBlock_first (b : List Byte) :
    (¬ blockCheckOk b = true → judgeBlock b = .check) ∧
    (blockCheckOk b = true → ¬ identityOk b = true → judgeBlock b = .identity) ∧
    (blockCheckOk b = true → identityOk b = true → ¬ odometryOk b = true → judgeBlock b = .odometry) ∧
    (blockCheckOk b = true → identityOk b = true → odometryOk b = true → ¬ planOk b = true → judgeBlock b = .plan) ∧
    (blockCheckOk b = true → identityOk b = true → odometryOk b = true → planOk b = true → ¬ trackingOk b = true →
      judgeBlock b = .tracking) ∧
    (blockCheckOk b = true → identityOk b = true → odometryOk b = true → planOk b = true → trackingOk b = true →
      ¬ markingOk b = true → judgeBlock b = .marking) ∧
    (blockCheckOk b = true → identityOk b = true → odometryOk b = true → planOk b = true → trackingOk b = true →
      markingOk b = true → judgeBlock b = .none) := by
  refine ⟨?_, ?_, ?_, ?_, ?_, ?_, ?_⟩ <;> simp +contextual [judgeBlock]

/-- Settles O41: each group by what it accepts, in the order in which they are judged. -/
theorem blockIsJudgedByItsFirstRefusedGroup : Obligations.BlockIsJudgedByItsFirstRefusedGroup := by
  intro b whole at' own check identity odometry chord twist plan measure tracking nozzle marking
  have checked : blockCheckOk b = true ↔ check := blockCheckOk_iff whole
  have identified : identityOk b = true ↔ identity := identityOk_iff b
  have measured : odometryOk b = true ↔ odometry := odometryOk_iff b
  have planned : planOk b = true ↔ plan := by
    simp only [planOk_iff, chordOk_iff, twistOk_iff]
    rfl
  have tracked : trackingOk b = true ↔ tracking := by
    simp only [trackingOk_iff, measureOk_iff]
    rfl
  have marked : markingOk b = true ↔ marking := by
    simp only [markingOk_iff, nozzleOk_iff]
    rfl
  have judged := judgeBlock_first b
  rwa [checked, identified, measured, planned, tracked, marked] at judged

end Sys2Proof.Machine
end

section
/-! The commands of R198 by their bytes: what each command is answered, that the station state decides before that (R183,
R184, R197), too few and too many parameters and void selects (R195, R196), and the way out of FAULT (R184, R194). -/

namespace Sys2Proof.Machine

/-! ### The command list -/

/-- The byte names a command of R198. -/
theorem namesCommand_iff (code : Byte) : namesCommand code = true ↔ code ∈ commandList.map Prod.fst := by
  simp only [namesCommand, List.any_eq_true, List.mem_map, beq_iff_eq]

/-- A byte that names no command takes no parameters (R197). -/
theorem paramCount_of_unlisted {code : Byte} (unlisted : code ∉ commandList.map Prod.fst) : paramCount code = 0 := by
  have absent : commandList.find? (fun row => row.1 == code) = none :=
    List.find?_eq_none.2 fun row listed named => unlisted (List.mem_map.2 ⟨row, listed, eq_of_beq named⟩)
  rw [paramCount, absent]
  rfl

/-- A byte that names no command is an unknown command, whatever follows it (R197). -/
theorem commandOfCode_of_unlisted {code : Byte} (unlisted : code ∉ commandList.map Prod.fst) (params : List Byte) :
    commandOfCode code params = .unknownCommand code := by
  have other : ∀ n ∈ commandList.map fun row => row.1.toNat, code.toNat ≠ n := fun n listed named => by
    obtain ⟨row, held, rfl⟩ := List.mem_map.1 listed
    exact unlisted (List.mem_map.2 ⟨row, held, (BitVec.eq_of_toNat_eq named).symm⟩)
  rw [commandOfCode]
  split
  case h_16 => rfl
  all_goals exact absurd ‹code.toNat = _› (other _ (by decide))

/-- The bytes of a command of R198 begin with its listed byte; a well-formed one carries all its parameters, and its bytes
name it. -/
theorem listed_of_commandBytes {c : Instr} {bytes : List Byte} (sent : commandBytes c = some bytes) :
    ∃ code params, bytes = code :: params ∧ (code, paramCount code) ∈ commandList ∧
      (WellFormed c = true → params.length = paramCount code ∧ commandOfCode code params = c) := by
  cases c with
  | identify | readStatus | arm | disarm | resync | acknowledge =>
    cases sent
    exact ⟨_, _, rfl, by decide, fun _ => ⟨rfl, rfl⟩⟩
  | loadConfig | takeResults | takeRuns | endService | setMask | setModes | clearPending | historyRead =>
    cases sent
    exact ⟨_, _, rfl, by decide, fun wellFormed => ⟨eq_of_beq wellFormed, rfl⟩⟩
  | historyWindow first last =>
    cases sent
    refine ⟨_, _, rfl, by decide, fun wellFormed => ?_⟩
    simp only [WellFormed, Bool.and_eq_true, beq_iff_eq] at wellFormed
    obtain ⟨four, four'⟩ := wellFormed
    refine ⟨by rw [List.length_append, four, four']; rfl, ?_⟩
    show Instr.historyWindow ((first ++ last).take 4) ((first ++ last).drop 4) = _
    rw [← four, List.take_left, List.drop_left]
  | _ => cases sent

/-- A listed byte with all its parameters names the command that is sent by these bytes (R198). -/
theorem commandBytes_commandOfCode {row : Byte × Nat} (listed : row ∈ commandList) {params : List Byte}
    (whole : params.length = row.2) : commandBytes (commandOfCode row.1 params) = some (row.1 :: params) := by
  have bare : ∀ code c, commandOfCode code [] = c → commandBytes c = some [code] → params.length = 0 →
      commandBytes (commandOfCode code params) = some (code :: params) := fun code c names sent empty => by
    rw [List.length_eq_zero_iff.1 empty, names, sent]
  have window : commandBytes (commandOfCode 64 params) = some (64 :: params) :=
    congrArg (fun p => some (64 :: p)) (List.take_append_drop 4 params)
  revert whole
  revert row
  simp only [commandList, List.forall_mem_cons]
  exact ⟨bare _ _ rfl rfl, bare _ _ rfl rfl, fun _ => rfl, bare _ _ rfl rfl, bare _ _ rfl rfl, bare _ _ rfl rfl,
    fun _ => rfl, fun _ => rfl, bare _ _ rfl rfl, fun _ => rfl, fun _ => rfl, fun _ => rfl, fun _ => rfl,
    fun _ => window, fun _ => rfl, nofun⟩

/-! ### What a command is answered -/

/-- The command keeps the history window: HISTORY_WINDOW and HISTORY_READ (R202). -/
def keepsWindow (code : Byte) : Bool := code == 64 || code == 65

/-- What the command of a command byte answers by its own meaning (R198). -/
def ownAnswer (code : Byte) (params : List Byte) : State → Reply × State :=
  match code.toNat with
  | 1 => answerIdentify
  | 2 => answerReadStatus
  | 16 => answerLoadConfig params
  | 17 => answerArm
  | 18 => answerDisarm
  | 19 => answerResync
  | 32 => answerTakeResults (firstParam params)
  | 33 => answerTakeRuns (firstParam params)
  | 48 => answerAcknowledge
  | 49 => answerEndService (firstParam params)
  | 50 => answerSetMask (firstParam params)
  | 51 => answerSetModes (firstParam params)
  | 52 => answerClearPending (firstParam params)
  | 64 => answerHistoryWindow (trackPostParam params 0) (trackPostParam params 4)
  | 65 => answerHistoryRead (firstParam params)
  | _ => answerUnknown

/-- What a command of R198 answers: the station state decides before its meaning does, for all but IDENTIFY; READ_STATUS
is answered in FAULT too (R183, R184, R197). -/
def stationAnswer (code : Byte) (params : List Byte) : State → Reply × State :=
  if code = 1 then ownAnswer code params else gated (code == 2) (ownAnswer code params)

/-- Every command of R198 is its bytes clocked in (R195, R196). -/
theorem exec_of_commandBytes {c : Instr} {code : Byte} {params : List Byte}
    (sent : commandBytes c = some (code :: params)) (s : State) :
    exec c s = .next (s.powered (clockIn code params (keepsWindow code) (stationAnswer code))) := by
  cases c <;> cases sent <;> rfl

theorem windowKept_of_commandBytes {c : Instr} {code : Byte} {params : List Byte}
    (sent : commandBytes c = some (code :: params)) (w : Option HistoryWindow) :
    windowKept c w = if keepsWindow code then w else none := by
  cases c <;> cases sent <;> rfl

/-! ### The number of parameters, and void selects -/

/-- With too few parameters the bytes received are kept, and the window stays (R196; log 5). -/
theorem exec_of_short {c : Instr} {code : Byte} {params : List Byte} {s : State} (takes : s.takesTransactions)
    (sent : commandBytes c = some (code :: params)) (short : params.length < paramCount code) :
    exec c s = .next (s.answering (code :: params) [] .plain s.port.window) := by
  rw [exec_of_commandBytes sent, State.powered_high takes.1, clockIn, takes.void_eq, if_neg Bool.false_ne_true,
    if_pos short]
  rfl

/-- Bytes after the parameters are disregarded (R196; log 5). -/
theorem clockIn_take {code : Byte} {params : List Byte} (enough : paramCount code ≤ params.length) (keeps : Bool)
    (body : List Byte → State → Reply × State) :
    clockIn code params keeps body = clockIn code (params.take (paramCount code)) keeps body := by
  funext s
  simp only [clockIn, List.take_take, Nat.min_self, List.length_take, Nat.min_eq_left enough, lt_irrefl,
    Nat.not_lt.2 enough, if_false]

/-- A command with bytes after its parameters is the command with its parameters alone (R196; log 5). -/
theorem exec_of_long {c d : Instr} {code : Byte} {params : List Byte} (sent : commandBytes c = some (code :: params))
    (enough : paramCount code ≤ params.length)
    (named : commandOf (code :: params.take (paramCount code)) = some d) (s : State) : exec c s = exec d s := by
  obtain ⟨_, _, ⟨⟩, listed, -⟩ := listed_of_commandBytes sent
  obtain rfl := Option.some.inj named
  have sentWhole := commandBytes_commandOfCode listed (List.length_take_of_le enough)
  rw [exec_of_commandBytes sent, exec_of_commandBytes sentWhole, clockIn_take enough]

/-- In a select that began before RESETN rose no bytes are taken (R195). -/
theorem clockIn_void {s : State} (selected : s.port.selected = true) (untaken : s.port.transaction = none) (code : Byte)
    (params : List Byte) (keeps : Bool) (body : List Byte → State → Reply × State) : clockIn code params keeps body s = s :=
  if_pos (by rw [Port.void, selected, untaken]; rfl)

theorem exec_of_void {c : Instr} {s : State} (sent : commandBytes c ≠ none ∨ ∃ code, c = .unknownCommand code)
    (selected : s.port.selected = true) (untaken : s.port.transaction = none) : exec c s = .next s := by
  have unmoved : ∀ f, f s = s → s.powered f = s := fun f same => by rw [State.powered, same, ite_self]
  rcases sent with named | ⟨code, rfl⟩
  · obtain ⟨bytes, sent⟩ := Option.ne_none_iff_exists'.1 named
    obtain ⟨code, params, rfl, -⟩ := listed_of_commandBytes sent
    rw [exec_of_commandBytes sent, unmoved _ (clockIn_void selected untaken _ _ _ _)]
  · refine congrArg Host.Outcome.next (unmoved _ ?_)
    rw [clockIn_void selected untaken, ite_self]

/-! ### The station state decides -/

/-- A whole command is taken (R196). -/
theorem exec_of_whole {c : Instr} {code : Byte} {params : List Byte} {s : State} (takes : s.takesTransactions)
    (sent : commandBytes c = some (code :: params)) (whole : params.length = paramCount code) :
    exec c s = .next (takeCommand (code :: params) (keepsWindow code) (stationAnswer code params) s) := by
  rw [exec_of_commandBytes sent, State.powered_high takes.1, clockIn_whole takes whole]

/-- Every command but IDENTIFY is BUSY in SELF_TEST, and but READ_STATUS WRONG_STATE in FAULT (R183, R184, R197). -/
theorem exec_of_stationState {c : Instr} {bytes : List Byte} {s : State} (takes : s.takesTransactions)
    (wellFormed : WellFormed c = true) (sent : commandBytes c = some bytes) (notIdentify : c ≠ .identify) :
    (s.control.station = .selfTest →
      exec c s = .next (s.answering bytes [1] .plain (windowKept c s.port.window))) ∧
    (s.control.station = .fault → c ≠ .readStatus →
      exec c s = .next (s.answering bytes [2] .plain (windowKept c s.port.window))) := by
  obtain ⟨code, params, rfl, -, named⟩ := listed_of_commandBytes sent
  obtain ⟨whole, rfl⟩ := named wellFormed
  have decided : stationAnswer code params = gated (code == 2) (ownAnswer code params) :=
    if_neg fun one => notIdentify (by rw [one]; rfl)
  rw [exec_of_whole takes sent whole, windowKept_of_commandBytes sent, decided]
  refine ⟨fun selfTest => ?_, fun fault notReadStatus => ?_⟩
  · rw [takeCommand_selfTest selfTest]
  · have two : (code == 2) = false := beq_eq_false_iff_ne.2 fun two => notReadStatus (by rw [two]; rfl)
    rw [two, takeCommand_fault fault]

/-- A byte that names no command is BAD_COMMAND in every station state (R197). -/
theorem exec_unknownCommand {code : Byte} {s : State} (takes : s.takesTransactions)
    (unlisted : code ∉ commandList.map Prod.fst) :
    exec (.unknownCommand code) s = .next (s.answering [code] [7] .plain none) := by
  have unnamed : ¬ namesCommand code = true := fun named => unlisted ((namesCommand_iff code).1 named)
  refine congrArg Host.Outcome.next ?_
  rw [State.powered_high takes.1, if_neg unnamed, clockIn_whole takes (params := []) (paramCount_of_unlisted unlisted).symm]
  rfl

/-! ### FAULT -/

/-- No move of the control block begins in FAULT (R184). -/
theorem Control.Move.not_fault {c d : Control} (move : c.Move d) : c.station ≠ .fault := by
  cases move with
  | tested _ station | accepted _ station | refused _ station => simp [station]
  | passed _ station => rintro fault; simp [StationState.Configured, fault] at station

/-- FAULT is left by no command: POWER_ON_RESET keeps the station state until the release (R184, R194). -/
theorem exec_of_fault {c : Instr} {s t : State} (inv : s.Inv) (high : s.resetn = true)
    (fault : s.control.station = .fault) (next : exec c s = .next t) : t.control.station = .fault := by
  by_cases reset : c = .powerOnReset
  · cases reset
    cases next
    exact fault
  · rcases (exec_moved (inv.paced high) high reset next).cases_head with same | ⟨_, move, -⟩
    · rw [← same, fault]
    · exact absurd fault move.not_fault

/-- Settles O46: every command is its bytes clocked in, and the gate answers before the command's meaning does; from FAULT
the control block has no move. -/
theorem stationStateDecidesTheAnswer : Obligations.StationStateDecidesTheAnswer := by
  refine ⟨⟨fun c bytes sent => ?_, by decide, fun code params unlisted => ?_⟩,
    fun _ _ _ takes wellFormed sent notIdentify => exec_of_stationState takes wellFormed sent notIdentify,
    fun _ _ takes unlisted => exec_unknownCommand takes unlisted,
    fun _ _ _ s sent => ⟨fun takes short => exec_of_short takes sent short,
      fun _ enough named => exec_of_long sent enough named s⟩,
    fun _ _ sent selected untaken => exec_of_void sent selected untaken,
    fun _ _ _ inv high fault next => exec_of_fault inv high fault next⟩
  · obtain ⟨code, params, rfl, listed, named⟩ := listed_of_commandBytes sent
    refine ⟨_, listed, rfl, fun wellFormed => ?_⟩
    obtain ⟨whole, rfl⟩ := named wellFormed
    exact ⟨rfl, by rw [List.length_cons, whole, Nat.add_comm]⟩
  · exact congrArg some (commandOfCode_of_unlisted unlisted params)

end Sys2Proof.Machine
end

section
/-! LOAD_CONFIG by the station state (R188 to R190). -/

namespace Sys2Proof.Machine

theorem answerLoadConfig_of_locked {s : State} (station : s.control.station ≠ .unconfigured) (b : List Byte) :
    answerLoadConfig b s = (bare .locked, s) := if_neg station

theorem answerLoadConfig_of_refused {s : State} (station : s.control.station = .unconfigured) {b : List Byte}
    (refused : judgeBlock b ≠ .none) : answerLoadConfig b s = (bare .badConfig, s.refuseBlock (judgeBlock b)) := by
  rw [answerLoadConfig, if_pos station, if_neg refused]

theorem answerLoadConfig_of_accepted {s : State} (station : s.control.station = .unconfigured) {b : List Byte}
    (accepted : judgeBlock b = .none) : answerLoadConfig b s = (bare .ok, s.acceptBlock b) := by
  rw [answerLoadConfig, if_pos station, if_pos accepted]

/-- A whole LOAD_CONFIG outside SELF_TEST and FAULT is answered from the state with an empty port (R196, R202). -/
theorem exec_loadConfig {s : State} (takes : s.takesTransactions) {b : List Byte} (whole : b.length = 183)
    (test : s.control.station ≠ .selfTest) (fault : s.control.station ≠ .fault) {reply : Reply} {t : State}
    (answer : answerLoadConfig b (s.between none) = (reply, t)) :
    exec (.loadConfig b) s = .next (t.respond (16 :: b) reply) := by
  rw [exec_of_whole takes rfl whole]
  refine congrArg Host.Outcome.next ((takeCommand_open test fault _ _ false (answerLoadConfig b)).trans ?_)
  rw [takeCommand_eq]
  exact congrArg (fun r : Reply × State => r.2.respond (16 :: b) r.1) answer

/-- With a configuration in force the station is in none of the three other states. -/
theorem StationState.Configured.ne {x : StationState} (h : x.Configured) :
    x ≠ .selfTest ∧ x ≠ .fault ∧ x ≠ .unconfigured := by
  rcases h with rfl | rfl | rfl <;> decide

/-- Settles O43: by the number of bytes, the station state and the judgement of the block. -/
theorem loadConfigStoresOrRefuses : Obligations.LoadConfigStoresOrRefuses := by
  refine fun b s takes => ⟨fun short => exec_of_short takes rfl short, fun whole =>
    ⟨fun locked => ?_, fun station refused => ?_, fun station accepted => ?_⟩⟩
  · obtain ⟨test, fault, unconfigured⟩ := StationState.Configured.ne locked
    exact exec_loadConfig takes whole test fault (answerLoadConfig_of_locked (s := s.between none) unconfigured b)
  · exact exec_loadConfig takes whole (by simp [station]) (by simp [station])
      (answerLoadConfig_of_refused (s := s.between none) station refused)
  · exact exec_loadConfig takes whole (by simp [station]) (by simp [station])
      (answerLoadConfig_of_accepted (s := s.between none) station accepted)

end Sys2Proof.Machine
end

section
/-! IDENTIFY (R199): bytes with bits the manual does not state, and the six bytes in every station state. -/

namespace Sys2Proof.Machine

/-- A command whose answer draws free values and changes nothing else (R196; log 7). -/
theorem takeCommand_drawn {s : State} {received data : List Byte} {body : State → Reply × State}
    (answer : body (s.between none) = (okWith data, (s.between none).drawn)) :
    takeCommand received false body s =
      State.answering { s with draws := s.draws + 1 } received (0 :: data) .plain none := by
  rw [takeCommand_eq]
  exact congrArg (fun r : Reply × State => r.2.respond received r.1) answer

/-- The bits that the manual states stand whatever the free byte is (log 7). -/
theorem withUnstated_getLsbD (s : State) (index : Nat) {unstated : Byte} (stated : Byte) {k : Nat}
    (isStated : unstated.getLsbD k = false) : (s.withUnstated index unstated stated).getLsbD k = stated.getLsbD k := by
  rw [State.withUnstated, BitVec.getLsbD_or, BitVec.getLsbD_and, BitVec.getLsbD_and, BitVec.getLsbD_not, isStated]
  by_cases within : k < 8
  · simp [within]
  · simp [BitVec.getLsbD_of_ge _ k (Nat.le_of_not_lt within)]

theorem resultByte_selfTest {s : State} (test : s.control.station = .selfTest) : s.resultByte = 0 := if_pos test

/-- Outside SELF_TEST bits 0 to 4 of the result byte are the self-test result (R199). -/
theorem resultByte_getLsbD {s : State} (test : s.control.station ≠ .selfTest) {i : Nat} (lt : i < 5) :
    s.resultByte.getLsbD i = s.control.selfTest.getLsbD i := by
  have isStated : ∀ i < 5, (0xE0 : Byte).getLsbD i = false := by decide
  rw [State.resultByte, if_neg test, withUnstated_getLsbD s 3 _ (isStated i lt), BitVec.getLsbD_setWidth,
    decide_eq_true (show i < 8 by omega), Bool.true_and]

/-- Settles O47: IDENTIFY is not gated, and its data is the identity with the model's own free bits. -/
theorem identifyAnswersSixBytes : Obligations.IdentifyAnswersSixBytes := by
  refine fun s takes => ⟨s.resultByte, resultByte_selfTest, fun test i lt => resultByte_getLsbD test lt, ?_⟩
  rw [exec_of_whole takes (c := .identify) rfl rfl]
  exact congrArg Host.Outcome.next (takeCommand_drawn rfl)

end Sys2Proof.Machine
end

section
/-! READ_STATUS (R200): the response as a row of parts of fixed width, and what a field or a bit of a part reads as. -/

namespace Sys2Proof.Machine

/-! ### Parts of a byte sequence -/

/-- The bytes `part` stand in `d` from byte `i` on. -/
def StandsAt (d : List Byte) (i : Nat) (part : List Byte) : Prop := (d.drop i).take part.length = part

/-- Each of joined parts stands after the bytes of those before it. -/
theorem standsAt_flatten {parts : List (List Byte)} {k : Nat} {part : List Byte} (held : parts[k]? = some part) :
    StandsAt parts.flatten ((parts.map List.length).take k).sum part := by
  obtain ⟨lt, rfl⟩ := List.getElem?_eq_some_iff.1 held
  have cut := List.drop_take_succ_flatten_eq_getElem parts k lt
  rwa [List.sum_take_succ _ k (by simpa using lt), List.getElem_map, List.drop_take, Nat.add_sub_cancel_left] at cut

/-- Of joined parts of one width, number `k` stands `k` widths after the first. -/
theorem standsAt_flatMap {α : Type} {l : List α} {f : α → List Byte} {width k : Nat} {x : α}
    (wide : ∀ y, (f y).length = width) (held : l[k]? = some x) : StandsAt (l.flatMap f) (width * k) (f x) := by
  have stands := standsAt_flatten (parts := l.map f) (k := k) (by rw [List.getElem?_map, held]; rfl)
  have lt := (List.getElem?_eq_some_iff.1 held).1
  have widths : (l.map f).map List.length = List.replicate l.length width :=
    List.eq_replicate_iff.2 ⟨by simp, by simp [wide]⟩
  rw [widths, List.take_replicate, List.sum_replicate, Nat.min_eq_left lt.le, smul_eq_mul, Nat.mul_comm] at stands
  rwa [List.flatMap_def]

theorem beNat_zeros (n : Nat) : beNat (List.replicate n 0) = 0 := by
  induction n with
  | zero => rfl
  | succ n ih => exact ih

namespace StandsAt

variable {d part : List Byte} {i : Nat}

/-- Bytes within a part are bytes of the whole sequence. -/
theorem field (h : StandsAt d i part) (j : Nat) {bytes : List Byte} (inner : StandsAt part j bytes) :
    StandsAt d (i + j) bytes := by
  have whole : (d.drop i).take part.length = part := h
  have within : bytes.length ≤ part.length - j := by
    have shorter := congrArg List.length inner
    rw [List.length_take, List.length_drop] at shorter
    exact min_eq_left_iff.1 shorter
  have cut : (part.drop j).take bytes.length = bytes := inner
  calc (d.drop (i + j)).take bytes.length
      = (((d.drop i).take part.length).drop j).take bytes.length := by
        rw [List.drop_take, List.drop_drop, List.take_take, Nat.min_eq_left within]
    _ = bytes := by rw [whole, cut]

theorem byte (h : StandsAt d i part) (j : Nat) {x : Byte} (inner : StandsAt part j [x]) :
    fieldAt d (i + j) 1 = x.toNat := fieldAt_byte (h.field j inner)

theorem bit (h : StandsAt d i part) (j k : Nat) {x : Byte} (inner : StandsAt part j [x]) :
    (fieldAt d (i + j) 1).testBit k = x.getLsbD k := by
  rw [h.byte j inner, BitVec.testBit_toNat]

theorem u8 (h : StandsAt d i part) (j : Nat) {n : Nat} (inner : StandsAt part j [Machine.u8 n]) :
    fieldAt d (i + j) 1 = n % 256 := (h.byte j inner).trans (BitVec.toNat_ofNat n 8)

theorem be16 (h : StandsAt d i part) (j : Nat) {x : Half} (inner : StandsAt part j (Machine.be16 x)) :
    fieldAt d (i + j) 2 = x.toNat := fieldAt_be16 (h.field j inner)

theorem u16 (h : StandsAt d i part) (j : Nat) {n : Nat} (inner : StandsAt part j (Machine.u16 n)) :
    fieldAt d (i + j) 2 = n % 65536 := (h.be16 j inner).trans (BitVec.toNat_ofNat n 16)

theorem s16 (h : StandsAt d i part) (j : Nat) {x : Int} (inner : StandsAt part j (Machine.s16 x)) :
    fieldAt d (i + j) 2 = (x % 65536).toNat := (h.be16 j inner).trans (BitVec.toNat_ofInt x)

theorem u32 (h : StandsAt d i part) (j : Nat) {n : Nat} (inner : StandsAt part j (Machine.u32 n)) :
    fieldAt d (i + j) 4 = n % 4294967296 := (fieldAt_be32 (h.field j inner)).trans (BitVec.toNat_ofNat n 32)

theorem s32 (h : StandsAt d i part) (j : Nat) {x : Int} (inner : StandsAt part j (Machine.s32 x)) :
    fieldAt d (i + j) 4 = (x % 4294967296).toNat := (fieldAt_be32 (h.field j inner)).trans (BitVec.toNat_ofInt x)

theorem zeros {n : Nat} (h : StandsAt d i (List.replicate n 0)) : fieldAt d i n = 0 := by
  have bytes : (d.drop i).take (List.replicate n (0 : Byte)).length = List.replicate n 0 := h
  rw [List.length_replicate] at bytes
  rw [fieldAt, bytes, beNat_zeros]

end StandsAt

/-! ### The parts of READ_STATUS -/

/-- The raw value of a channel, 0 when no frame is held (R200). -/
def State.rawValue (s : State) (channel : Channels Int → Int) : Int :=
  match s.sensor.latest with
  | none => 0
  | some x => channel x.raw

theorem statusRaw_eq (s : State) : s.statusRaw =
    s16 (s.rawValue Channels.gL) ++ s16 (s.rawValue Channels.gR) ++ s16 (s.rawValue Channels.zL) ++
      s16 (s.rawValue Channels.zR) ++ s16 (s.rawValue Channels.rho) := by
  unfold State.statusRaw State.rawValue
  cases s.sensor.latest <;> rfl

theorem statusAge_length (s : State) : s.statusAge.length = 4 := by
  unfold State.statusAge
  cases s.sensor.age <;> rfl

/-- The bytes of a tracked measure beyond the configured count (R200). -/
theorem statusMeasure_beyond {s : State} {i : Fin 8} (h : s.cfg.measures[i.val]? = none) :
    s.statusMeasure i = List.replicate 15 0 := by
  rw [State.statusMeasure, h]

/-- The state byte of a tracked measure: bit 7 while a run is open, and then its class (R200). -/
def State.runStateByte (s : State) (index : Nat) : Option OpenRun → Byte
  | none => s.withUnstated index 0x7F 0
  | some r => s.withUnstated index 0x7C (0x80#8 ||| u8 r.cls)

theorem statusRun_eq (s : State) (index : Nat) (run : Option OpenRun) :
    s.statusRun index run = s.runStateByte index run :: s32 ((run.map OpenRun.start).getD 0) := by
  cases run <;> rfl

theorem statusMeasure_configured {s : State} {i : Fin 8} {m : TrackedMeasure} (h : s.cfg.measures[i.val]? = some m) :
    s.statusMeasure i = s.runStateByte (101 + 15 * i) s.tracker.runs[i] ::
      s32 ((s.tracker.runs[i].map OpenRun.start).getD 0) ++ u16 m.l1 ++ u16 m.l2 ++ u16 m.l3 ++ u16 m.h ++
      [u8 m.g, u8 m.m] := by
  rw [State.statusMeasure, h, ← statusRun_eq]

theorem statusMeasure_length (s : State) (i : Fin 8) : (s.statusMeasure i).length = 15 := by
  cases h : s.cfg.measures[i.val]? with
  | none => rw [statusMeasure_beyond h]; rfl
  | some m => rw [statusMeasure_configured h]; rfl

/-- The bytes of a nozzle before a configuration is accepted (R200). -/
theorem statusNozzle_unconfigured {s : State} (h : s.control.config = none) (x : Nozzle) (index : Nat) :
    s.statusNozzle x index = List.replicate 6 0 := by
  rw [State.statusNozzle, h]

/-- Of a nozzle not fitted the fitted code alone is stated (R163; log 8). -/
theorem statusNozzle_unfitted {s : State} {c : StationConfig} (h : s.control.config = some c) {x : Nozzle}
    (unfitted : c.nozzle x = none) (index : Nat) :
    s.statusNozzle x index = 0 :: [1, 2, 3, 4, 5].map fun k => s.freeByte (index + k) := by
  simp only [State.statusNozzle, h, unfitted, List.map_cons, List.map_nil]

theorem statusNozzle_fitted {s : State} {c : StationConfig} (h : s.control.config = some c) {x : Nozzle}
    {n : NozzleConfig} (fitted : c.nozzle x = some n) (index : Nat) :
    s.statusNozzle x index = [1, u8 n.offset, u8 n.minClass, anchorCode n.anchor, u8 n.pulse, n.mask] := by
  simp only [State.statusNozzle, h, fitted]

theorem statusNozzle_length (s : State) (x : Nozzle) (index : Nat) : (s.statusNozzle x index).length = 6 := by
  cases h : s.control.config with
  | none => rw [statusNozzle_unconfigured h]; rfl
  | some c =>
    cases nozzle : c.nozzle x with
    | none => rw [statusNozzle_unfitted h nozzle]; rfl
    | some n => rw [statusNozzle_fitted h nozzle]; rfl

/-- The response of READ_STATUS in parts: within each the fields stand at fixed bytes, or the parts are alike (R200). -/
def State.statusParts (s : State) : List (List Byte) :=
  [s.statusPacing, s.statusBus, s.statusSet :: s.statusRaw, s.statusAge, u16 s.sensor.frameErrors,
   [u8 s.cfg.depth, u8 s.window.rows.length] ++ postField (s.window.rows.head?.map Row.post),
   s.window.late.toList.flatMap u16, u16 s.window.duplicateSamples, s.window.missed.toList.flatMap u16,
   s.statusResults,
   [u8 s.tracker.queue.length] ++ be16 s.tracker.sequence ++ u16 s.tracker.spikes ++ u16 s.tracker.runsLost,
   eight.flatMap s.statusMeasure,
   [u8 s.marker.queue.length, s.statusHead] ++ postField (s.marker.queue.head?.map MarkAction.due) ++
    u32 s.marker.left.remaining ++ u32 s.marker.right.remaining ++ u16 s.marker.missed,
   s.statusNozzle .left 237, s.statusNozzle .right 243, s.statusAlerts, be16 (crcBytes s.statusBody)]

theorem statusBytes_eq (s : State) : s.statusBytes = s.statusParts.flatten := by
  have body : s.statusBody = s.statusParts.dropLast.flatten := by
    simp only [State.statusBody, State.statusSensor, State.statusWindow, State.statusRuns, State.statusMarking,
      State.statusParts, List.dropLast_cons_cons, List.dropLast_singleton, List.flatten_cons, List.flatten_nil,
      List.append_assoc, List.cons_append, List.nil_append, List.append_nil]
  rw [State.statusBytes, withCheck]
  nth_rw 1 [body]
  simp [State.statusParts]

theorem statusParts_widths (s : State) :
    s.statusParts.map List.length = [13, 9, 11, 4, 2, 6, 16, 2, 16, 15, 7, 120, 16, 6, 6, 7, 2] := by
  have raw : s.statusRaw.length = 10 := by rw [statusRaw_eq]; rfl
  have counters : ∀ v : Vector Nat 8, (v.toList.flatMap u16).length = 16 := fun v => by
    simp [List.length_flatMap, show ∀ n, (u16 n).length = 2 from fun _ => rfl]
  have measures : (eight.flatMap s.statusMeasure).length = 120 := by simp [statusMeasure_length, eight]
  simp only [State.statusParts, List.map_cons, List.map_nil, counters, measures, statusAge_length, statusNozzle_length,
    List.length_cons, raw]
  rfl

theorem statusBytes_length (s : State) : s.statusBytes.length = 258 := by
  rw [statusBytes_eq, List.length_flatten, statusParts_widths]
  rfl

/-- The bytes the check is over are those before it (R200). -/
theorem statusBytes_take (s : State) : s.statusBytes.take 256 = s.statusBody := by
  have long : s.statusBody.length + 2 = 258 := (List.length_append).symm.trans (statusBytes_length s)
  exact List.take_left' (Nat.add_right_cancel long)

/-- Each part of the response stands after the widths of those before it (R200). -/
theorem statusPart_standsAt {s : State} (k : Nat) {part : List Byte} (held : s.statusParts[k]? = some part) :
    StandsAt s.statusBytes (([13, 9, 11, 4, 2, 6, 16, 2, 16, 15, 7, 120, 16, 6, 6, 7, 2].take k).sum) part := by
  rw [statusBytes_eq, ← statusParts_widths s]
  exact standsAt_flatten held

/-- The check stands after the bytes it is over (R112, R200). -/
theorem check_field (s : State) : fieldAt s.statusBytes 256 2 = (crcBytes (s.statusBytes.take 256)).toNat := by
  have check : StandsAt s.statusBytes 256 (be16 (crcBytes s.statusBody)) := statusPart_standsAt 16 rfl
  rw [statusBytes_take]
  exact check.be16 0 rfl

theorem statusMeasure_standsAt (s : State) (i : Fin 8) : StandsAt s.statusBytes (101 + 15 * i) (s.statusMeasure i) := by
  have measures : StandsAt s.statusBytes 101 (eight.flatMap s.statusMeasure) := statusPart_standsAt 11 rfl
  exact measures.field _ (standsAt_flatMap (statusMeasure_length s) (by revert i; decide))

/-- A counter of each station stands at two bytes (R200). -/
theorem counters_field {d : List Byte} {i : Nat} {v : Vector Nat 8} (h : StandsAt d i (v.toList.flatMap u16))
    (station : Fin 8) : fieldAt d (i + 2 * station) 2 = v[station] % 65536 :=
  h.u16 _ (standsAt_flatMap (fun _ => rfl) (by simp))

/-! ### Bytes of bits -/

/-- A stated bit of a byte given by its bits (log 7). -/
theorem withUnstated_byteOf (s : State) (index : Nat) {unstated : Byte} {b0 b1 b2 b3 b4 b5 b6 b7 : Bool} (k : Nat)
    (isStated : unstated.getLsbD k = false) :
    (s.withUnstated index unstated (byteOf b0 b1 b2 b3 b4 b5 b6 b7)).getLsbD k =
      [b0, b1, b2, b3, b4, b5, b6, b7].getD k false :=
  (withUnstated_getLsbD s index _ isStated).trans (byteOf_getLsbD ..)

/-- Byte 22: bit 0 tells whether a set is held and bit 6 whether the age is none (R200). -/
theorem statusSet_getLsbD (s : State) :
    s.statusSet.getLsbD 0 = s.sensor.latest.isSome ∧ s.statusSet.getLsbD 6 = s.sensor.age.isNone := by
  unfold State.statusSet
  cases s.sensor.latest with
  | none => exact ⟨withUnstated_byteOf s 22 0 rfl, withUnstated_byteOf s 22 6 rfl⟩
  | some x => exact ⟨withUnstated_byteOf s 22 0 rfl, withUnstated_byteOf s 22 6 rfl⟩

/-- Byte 22 with a set held: bits 1 to 5 are its over-range flags (R200). -/
theorem statusSet_overRange {s : State} {x : SensorSet} (held : s.sensor.latest = some x) :
    ∀ y ∈ [(1, x.overRange.gL), (2, x.overRange.gR), (3, x.overRange.zL), (4, x.overRange.zR), (5, x.overRange.rho)],
      s.statusSet.getLsbD y.1 = y.2 := by
  simp only [State.statusSet, held, List.forall_mem_cons]
  exact ⟨withUnstated_byteOf s 22 1 rfl, withUnstated_byteOf s 22 2 rfl, withUnstated_byteOf s 22 3 rfl,
    withUnstated_byteOf s 22 4 rfl, withUnstated_byteOf s 22 5 rfl, nofun⟩

/-- Byte 222: bit 0 tells whether an action is queued (R200). -/
theorem statusHead_getLsbD_zero (s : State) : s.statusHead.getLsbD 0 = !s.marker.queue.isEmpty := by
  unfold State.statusHead
  cases s.marker.queue with
  | nil => exact withUnstated_getLsbD s 222 0 rfl
  | cons a rest => exact withUnstated_byteOf s 222 0 rfl

/-- Byte 222: bit 1 tells the nozzle of the head action (R200). -/
theorem statusHead_getLsbD_one {s : State} {a : MarkAction} {rest : List MarkAction} (h : s.marker.queue = a :: rest) :
    s.statusHead.getLsbD 1 = decide (a.nozzle = .right) := by
  rw [State.statusHead, h]
  refine (withUnstated_byteOf s 222 1 rfl).trans ?_
  cases a.nozzle <;> rfl

theorem runStateByte_getLsbD (s : State) (index : Nat) (run : Option OpenRun) :
    (s.runStateByte index run).getLsbD 7 = run.isSome := by
  cases run with
  | none => exact withUnstated_getLsbD s index 0 rfl
  | some r =>
    refine (withUnstated_getLsbD s index _ rfl).trans ?_
    rw [BitVec.getLsbD_or]
    exact Bool.true_or _

/-- The low two bits of the state byte are the class of the open run (R200). -/
theorem runStateByte_cls (s : State) (index : Nat) (r : OpenRun) :
    (s.runStateByte index (some r)).toNat % 4 = r.cls % 4 := by
  have low : ∀ k < 2, (s.runStateByte index (some r)).getLsbD k = (u8 r.cls).getLsbD k := fun k lt => by
    have isStated : ∀ k < 2, (0x7C : Byte).getLsbD k = false ∧ (0x80#8).getLsbD k = false := by decide
    rw [State.runStateByte, withUnstated_getLsbD s index _ (isStated k lt).1, BitVec.getLsbD_or, (isStated k lt).2,
      Bool.false_or]
  have same : (s.runStateByte index (some r)).toNat % 2 ^ 2 = (u8 r.cls).toNat % 2 ^ 2 :=
    Nat.eq_of_testBit_eq fun k => by
      simp only [Nat.testBit_mod_two_pow, BitVec.testBit_toNat]
      by_cases lt : k < 2
      · rw [low k lt]
      · simp [lt]
  have carried : (u8 r.cls).toNat = r.cls % 256 := BitVec.toNat_ofNat ..
  omega

/-! ### READ_STATUS -/

theorem gated_inFault {s : State} (test : s.control.station ≠ .selfTest) (body : State → Reply × State) :
    gated true body s = body s := by
  rw [gated]
  cases station : s.control.station with
  | selfTest => exact absurd station test
  | fault | unconfigured | configured | joining | running => rfl

/-- READ_STATUS outside SELF_TEST is answered with the snapshot (R184, R200). -/
theorem exec_readStatus {s : State} (takes : s.takesTransactions) (test : s.control.station ≠ .selfTest) :
    exec .readStatus s =
      .next (State.answering { s with draws := s.draws + 1 } [2] (0 :: s.statusBytes) .plain none) := by
  rw [exec_of_whole takes (c := .readStatus) rfl rfl]
  exact congrArg Host.Outcome.next (takeCommand_drawn (gated_inFault (s := s.between none) test answerReadStatus))

/-- The fields of a configured tracked measure at its fifteen bytes; an IDLE one has no start (R200). -/
theorem measure_fields {s : State} {i : Fin 8} {m : TrackedMeasure} (configured : s.cfg.measures[i.val]? = some m) :
    let d := s.statusBytes
    (fieldAt d (101 + 15 * i) 1).testBit 7 = (s.tracker.runs[i]).isSome ∧
    (s.tracker.runs[i] = none → fieldAt d (102 + 15 * i) 4 = 0) ∧
    (∀ r, s.tracker.runs[i] = some r →
      fieldAt d (101 + 15 * i) 1 % 4 = r.cls % 4 ∧ fieldAt d (102 + 15 * i) 4 = (r.start % 4294967296).toNat) ∧
    fieldAt d (106 + 15 * i) 2 = m.l1 % 65536 ∧ fieldAt d (108 + 15 * i) 2 = m.l2 % 65536 ∧
    fieldAt d (110 + 15 * i) 2 = m.l3 % 65536 ∧ fieldAt d (112 + 15 * i) 2 = m.h % 65536 ∧
    fieldAt d (114 + 15 * i) 1 = m.g % 256 ∧ fieldAt d (115 + 15 * i) 1 = m.m % 256 := by
  have entry := statusMeasure_standsAt s i
  rw [statusMeasure_configured configured] at entry
  have place : ∀ k, 101 + k + 15 * i.val = 101 + 15 * i + k := fun k => Nat.add_right_comm ..
  have state := entry.byte 0 rfl
  have start := (congrArg (fieldAt _ · 4) (place 1)).trans (entry.s32 1 rfl)
  refine ⟨(entry.bit 0 7 rfl).trans (runStateByte_getLsbD ..), fun idle => ?_, fun r opened => ⟨?_, ?_⟩,
    (congrArg (fieldAt _ · 2) (place 5)).trans (entry.u16 5 rfl),
    (congrArg (fieldAt _ · 2) (place 7)).trans (entry.u16 7 rfl),
    (congrArg (fieldAt _ · 2) (place 9)).trans (entry.u16 9 rfl),
    (congrArg (fieldAt _ · 2) (place 11)).trans (entry.u16 11 rfl),
    (congrArg (fieldAt _ · 1) (place 13)).trans (entry.u8 13 rfl),
    (congrArg (fieldAt _ · 1) (place 14)).trans (entry.u8 14 rfl)⟩
  · rw [idle] at start
    exact start
  · rw [opened] at state
    exact (congrArg (· % 4) state).trans (runStateByte_cls ..)
  · rw [opened] at start
    exact start

/-- The fields of a nozzle entry at its six bytes: all 0 before a configuration is accepted (R200). -/
theorem nozzle_fields {s : State} {d : List Byte} {j : Nat} {x : Nozzle} {index : Nat}
    (entry : StandsAt d j (s.statusNozzle x index)) :
    (s.control.config = none → fieldAt d j 6 = 0) ∧
    ∀ c, s.control.config = some c →
      (c.nozzle x = none → fieldAt d j 1 = 0) ∧
      ∀ n, c.nozzle x = some n → fieldAt d j 1 = 1 ∧ fieldAt d (j + 1) 1 = n.offset % 256 ∧
        fieldAt d (j + 2) 1 = n.minClass % 256 ∧ fieldAt d (j + 3) 1 = (if n.anchor = .start then 0 else 1) ∧
        fieldAt d (j + 4) 1 = n.pulse % 256 ∧ fieldAt d (j + 5) 1 = n.mask.toNat := by
  refine ⟨fun unconfigured => ?_, fun c configured => ⟨fun unfitted => ?_, fun n fitted => ?_⟩⟩
  · rw [statusNozzle_unconfigured unconfigured] at entry
    exact entry.zeros
  · rw [statusNozzle_unfitted configured unfitted] at entry
    exact entry.byte 0 rfl
  · rw [statusNozzle_fitted configured fitted] at entry
    have anchor : (anchorCode n.anchor).toNat = if n.anchor = .start then 0 else 1 := by cases n.anchor <;> rfl
    exact ⟨entry.byte 0 rfl, entry.u8 1 rfl, entry.u8 2 rfl, (entry.byte 3 rfl).trans anchor, entry.u8 4 rfl,
      entry.byte 5 rfl⟩

/-- Settles O48: the response is a row of parts of fixed width, and every field is read within its part. -/
theorem readStatusShowsTheSnapshot : Obligations.ReadStatusShowsTheSnapshot := by
  refine fun s takes test => ⟨s.statusBytes, exec_readStatus takes test, statusBytes_length s, ?_⟩
  intro u16 u32 s32 raw state cause fields bits
  have pacing : StandsAt s.statusBytes 0 s.statusPacing := statusPart_standsAt 0 rfl
  have bus : StandsAt s.statusBytes 13 s.statusBus := statusPart_standsAt 1 rfl
  have set : StandsAt s.statusBytes 22 (s.statusSet :: s.statusRaw) := statusPart_standsAt 2 rfl
  have age : StandsAt s.statusBytes 33 s.statusAge := statusPart_standsAt 3 rfl
  have frameErrors : StandsAt s.statusBytes 37 (Machine.u16 s.sensor.frameErrors) := statusPart_standsAt 4 rfl
  have window : StandsAt s.statusBytes 39 _ := statusPart_standsAt 5 rfl
  have late : StandsAt s.statusBytes 45 (s.window.late.toList.flatMap Machine.u16) := statusPart_standsAt 6 rfl
  have duplicates : StandsAt s.statusBytes 61 (Machine.u16 s.window.duplicateSamples) := statusPart_standsAt 7 rfl
  have missed : StandsAt s.statusBytes 63 (s.window.missed.toList.flatMap Machine.u16) := statusPart_standsAt 8 rfl
  have results : StandsAt s.statusBytes 79 s.statusResults := statusPart_standsAt 9 rfl
  have runs : StandsAt s.statusBytes 94 _ := statusPart_standsAt 10 rfl
  have marking : StandsAt s.statusBytes 221 _ := statusPart_standsAt 12 rfl
  have left : StandsAt s.statusBytes 237 (s.statusNozzle .left 237) := statusPart_standsAt 13 rfl
  have right : StandsAt s.statusBytes 243 (s.statusNozzle .right 243) := statusPart_standsAt 14 rfl
  have alerts : StandsAt s.statusBytes 249 s.statusAlerts := statusPart_standsAt 15 rfl
  refine ⟨?_, ?_, fun x held y flag => ?_, fun a known => ?_,
    fun i => ⟨counters_field late i, counters_field missed i⟩, fun i m configured => ?_, fun i beyond => ?_,
    fun a rest queued => (marking.bit 1 1 rfl).trans (statusHead_getLsbD_one queued), fun x => ?_⟩
  · have stateCoded : (stateCode s.control.station).toNat = state := by
      simp only [state]; cases s.control.station <;> rfl
    have causeCoded : (refusalCode s.control.refusal).toNat = cause := by
      simp only [cause]; cases s.control.refusal <;> rfl
    have rawCoded : ∀ channel, (s.rawValue channel % 65536).toNat = raw channel := fun channel => by
      simp only [raw, State.rawValue]; cases s.sensor.latest <;> rfl
    rw [statusRaw_eq] at set
    simp only [fields, List.forall_mem_cons]
    exact ⟨(pacing.byte 0 rfl).trans stateCoded, (pacing.byte 1 rfl).trans causeCoded, pacing.u32 2 rfl, pacing.s32 6 rfl,
      pacing.u16 11 rfl, bus.u8 1 rfl, bus.u8 2 rfl, bus.u16 3 rfl, bus.u16 5 rfl, bus.u16 7 rfl,
      (set.s16 1 rfl).trans (rawCoded _), (set.s16 3 rfl).trans (rawCoded _), (set.s16 5 rfl).trans (rawCoded _),
      (set.s16 7 rfl).trans (rawCoded _), (set.s16 9 rfl).trans (rawCoded _), frameErrors.u16 0 rfl,
      window.u8 0 rfl, window.u8 1 rfl, window.u32 2 rfl, duplicates.u16 0 rfl,
      results.u8 0 rfl, results.u8 1 rfl, results.u8 2 rfl, results.u16 3 rfl, results.u16 5 rfl, results.u32 7 rfl,
      results.u32 11 rfl, runs.u8 0 rfl, runs.be16 1 rfl, runs.u16 3 rfl, runs.u16 5 rfl,
      marking.u8 0 rfl, marking.u32 2 rfl, marking.u32 6 rfl, marking.u32 10 rfl, marking.u16 14 rfl,
      alerts.byte 0 rfl, alerts.byte 1 rfl, alerts.byte 2 rfl, alerts.byte 3 rfl, alerts.u8 5 rfl, alerts.u8 6 rfl,
      check_field s, nofun⟩
  · obtain ⟨setHeld, ageNone⟩ := statusSet_getLsbD s
    simp only [bits, List.forall_mem_cons]
    exact ⟨(pacing.bit 10 0 rfl).trans (withUnstated_byteOf s 10 0 rfl),
      (pacing.bit 10 1 rfl).trans (withUnstated_byteOf s 10 1 rfl),
      (bus.bit 0 0 rfl).trans (withUnstated_byteOf s 13 0 rfl), (bus.bit 0 1 rfl).trans (withUnstated_byteOf s 13 1 rfl),
      (bus.bit 0 2 rfl).trans (withUnstated_byteOf s 13 2 rfl),
      (set.bit 0 0 rfl).trans setHeld, (set.bit 0 6 rfl).trans ageNone,
      (marking.bit 1 0 rfl).trans (statusHead_getLsbD_zero s),
      (alerts.bit 4 0 rfl).trans (withUnstated_byteOf s 253 0 rfl),
      (alerts.bit 4 1 rfl).trans (withUnstated_byteOf s 253 1 rfl),
      (alerts.bit 4 2 rfl).trans (withUnstated_byteOf s 253 2 rfl), nofun⟩
  · exact (set.bit 0 y.1 rfl).trans (statusSet_overRange held y flag)
  · rw [State.statusAge, known] at age
    exact age.u32 0 rfl
  · exact measure_fields configured
  · have entry := statusMeasure_standsAt s i
    rw [statusMeasure_beyond (List.getElem?_eq_none beyond)] at entry
    exact entry.zeros
  · cases x
    case left => exact nozzle_fields left
    case right => exact nozzle_fields right

end Sys2Proof.Machine
end

section
/-! What no command but STALE and VALVE_EXPIRY changes: the queue and the timer (logs 1 to 3). -/

namespace Sys2Proof.Machine

/-! ### States of one moment -/

/-- What holds before a command and after its effect holds after the command, whatever the level of RESETN (R181). -/
theorem State.powered_of {P : State → Prop} {f : State → State} {s : State} (before : P s) (after : P (f s)) :
    P (s.powered f) := by
  rw [State.powered]
  split
  · exact after
  · exact before

/-- The two states have one queue and one reading of the timer. -/
structure State.SameMoment (s t : State) : Prop where
  pending : t.pending = s.pending
  timer : t.timer = s.timer

namespace State.SameMoment

variable {s t u : State}

protected theorem rfl : s.SameMoment s := ⟨.refl _, .refl _⟩

theorem trans (first : s.SameMoment t) (second : t.SameMoment u) : s.SameMoment u :=
  ⟨second.pending.trans first.pending, second.timer.trans first.timer⟩

theorem ofBus (changed : ∃ bus, t = { s with bus }) : s.SameMoment t := by
  obtain ⟨_, rfl⟩ := changed
  exact ⟨rfl, rfl⟩

theorem powered {f : State → State} (kept : s.SameMoment (f s)) : s.SameMoment (s.powered f) :=
  State.powered_of .rfl kept

end State.SameMoment

/-- Queue and timer are no part of the Recorder Port. -/
theorem State.sameMoment_portFree (s : State) : PortFree s.SameMoment := fun _ _ h => ⟨h.pending, h.timer⟩

section Answers

variable {body : List Byte → State → Reply × State} (answer : ∀ p (s : State), s.SameMoment (body p s).2)
include answer

/-- Bytes clocked in keep the moment when the command's answer does. -/
theorem State.SameMoment.clockIn (code : Byte) (params : List Byte) (keeps : Bool) (s : State) :
    s.SameMoment (clockIn code params keeps body s) :=
  s.sameMoment_portFree.clockIn _ _ _ _ (fun p t _ earlier => earlier.trans (answer p t)) s .rfl

/-- So they do when the station state decides first (R183, R184, R197). -/
theorem State.SameMoment.gatedClockIn (code : Byte) (params : List Byte) (keeps inFault : Bool) (s : State) :
    s.SameMoment (Machine.clockIn code params keeps (fun p => gated inFault (body p)) s) :=
  s.sameMoment_portFree.gatedClockIn _ _ _ _ _ (fun p t _ earlier => earlier.trans (answer p t)) s .rfl

end Answers

/-! ### Commands of the recorder -/

theorem answerLoadConfig_sameMoment (b : List Byte) (s : State) : s.SameMoment (answerLoadConfig b s).2 := by
  rw [answerLoadConfig]
  split
  · split <;> exact ⟨rfl, rfl⟩
  · exact .rfl

theorem answerArm_sameMoment (s : State) : s.SameMoment (answerArm s).2 := by
  rw [answerArm]
  split <;> exact ⟨rfl, rfl⟩

theorem answerDisarm_sameMoment (s : State) : s.SameMoment (answerDisarm s).2 := by
  rw [answerDisarm]
  split <;> exact ⟨rfl, rfl⟩

theorem answerResync_sameMoment (s : State) : s.SameMoment (answerResync s).2 := by
  rw [answerResync]
  split <;> exact ⟨rfl, rfl⟩

theorem answerTakeResults_sameMoment (n : Byte) (s : State) : s.SameMoment (answerTakeResults n s).2 := by
  simp only [answerTakeResults]
  split <;> exact .rfl

theorem answerTakeRuns_sameMoment (n : Byte) (s : State) : s.SameMoment (answerTakeRuns n s).2 := by
  simp only [answerTakeRuns]
  split <;> exact .rfl

theorem answerAcknowledge_sameMoment (s : State) : s.SameMoment (answerAcknowledge s).2 := by
  rw [answerAcknowledge]
  split <;> exact ⟨rfl, rfl⟩

theorem answerEndService_sameMoment (which : Byte) (s : State) : s.SameMoment (answerEndService which s).2 := by
  rw [answerEndService]
  split
  · exact .rfl
  · split <;> exact ⟨rfl, rfl⟩

theorem answerClearPending_sameMoment (which : Byte) (s : State) : s.SameMoment (answerClearPending which s).2 := by
  rw [answerClearPending]
  split <;> exact ⟨rfl, rfl⟩

theorem answerHistoryWindow_sameMoment (first last : Int) (s : State) :
    s.SameMoment (answerHistoryWindow first last s).2 := by
  rw [answerHistoryWindow]
  split <;> exact ⟨rfl, rfl⟩

theorem answerHistoryRead_sameMoment (n : Byte) (s : State) : s.SameMoment (answerHistoryRead n s).2 := by
  rw [answerHistoryRead]
  split
  · exact .rfl
  · split <;> exact .rfl

/-! ### Frames and responses -/

theorem State.markSent_sameMoment (s : State) : s.SameMoment s.markSent := by
  rw [State.markSent]
  split <;> exact ⟨rfl, rfl⟩

theorem State.receiveMark_sameMoment (f : MarkFrame) (s : State) : s.SameMoment (s.receiveMark f) := by
  have taken (n : Nat) : s.SameMoment (s.takeMark n) := by
    rw [State.takeMark]
    split
    · exact .rfl
    · split <;> exact ⟨rfl, rfl⟩
  rw [State.receiveMark]
  split
  · exact .rfl
  · split
    · exact taken _
    · exact ⟨rfl, rfl⟩

theorem State.takeSample_sameMoment (sender : Fin 8) (n : Nat) (x : Sample) (s : State) :
    s.SameMoment (s.takeSample sender n x) := by
  rw [State.takeSample]
  split
  · exact ⟨rfl, rfl⟩
  · split
    · split <;> exact ⟨rfl, rfl⟩
    · exact ⟨rfl, rfl⟩

theorem State.receiveSample_sameMoment (f : SampleFrame) (s : State) : s.SameMoment (s.receiveSample f) := by
  have disposed : s.SameMoment (s.disposeSample f) := by
    rw [State.disposeSample]
    split
    · exact .rfl
    · split
      · exact ⟨rfl, rfl⟩
      · split
        · exact ⟨rfl, rfl⟩
        · exact s.takeSample_sameMoment _ _ _
  rw [State.receiveSample]
  split
  · exact .rfl
  · split
    · exact disposed
    · exact ⟨rfl, rfl⟩

theorem State.recordOut_sameMoment (s : State) : s.SameMoment s.recordOut := by
  rw [State.recordOut]
  split
  · split <;> exact ⟨rfl, rfl⟩
  · exact .rfl

theorem State.runOut_sameMoment (s : State) : s.SameMoment s.runOut := by
  rw [State.runOut]
  split
  · split <;> exact ⟨rfl, rfl⟩
  · exact .rfl

theorem State.lookUpEntry_sameMoment (s : State) : s.SameMoment s.lookUpEntry := by
  rw [State.lookUpEntry]
  split
  · split <;> exact ⟨rfl, rfl⟩
  · exact .rfl

theorem State.entryOut_sameMoment (s : State) : s.SameMoment s.entryOut := by
  rw [State.entryOut]
  split
  · split <;> exact ⟨rfl, rfl⟩
  · exact .rfl

/-! ### Every command -/

/-- Every command but the two that let time pass completes at the moment at which it is taken (logs 1 to 3). -/
theorem exec_sameMoment {c : Instr} (notStale : c ≠ .stale) (notExpiry : ∀ x, c ≠ .valveExpiry x) (s : State) :
    ∃ t, exec c s = .next t ∧ s.SameMoment t := by
  cases c
  case stale => exact absurd rfl notStale
  case valveExpiry x => exact absurd rfl (notExpiry x)
  all_goals refine ⟨_, rfl, ?_⟩
  case powerOnReset => exact ⟨rfl, rfl⟩
  case resetnRelease => split <;> exact ⟨rfl, rfl⟩
  all_goals refine .powered ?_
  case selfTestEnd => split <;> exact ⟨rfl, rfl⟩
  case tachEdge | bothLinesChanged | burstEnd | busIdleGap | deselect => exact ⟨rfl, rfl⟩
  case arbitrationLost bit => exact .ofBus (s.loseArbitration_frame bit)
  case transmitError bit => exact .ofBus (s.abortFrame_frame bit)
  case ownSampleSent => exact .ofBus s.sampleSent_frame
  case ownMarkCompletion => exact s.markSent_sameMoment
  case markFrame f => exact s.receiveMark_sameMoment f
  case sampleFrame f => exact s.receiveSample_sameMoment f
  case recordShiftedOut => exact s.recordOut_sameMoment
  case runShiftedOut => exact s.runOut_sameMoment
  case historyEntryLookup => exact s.lookUpEntry_sameMoment
  case historyEntryShiftedOut => exact s.entryOut_sameMoment
  case identify => exact .clockIn (fun _ _ => ⟨rfl, rfl⟩) _ _ _ s
  case unknownCommand =>
    split
    · exact .rfl
    · exact .clockIn (fun _ _ => .rfl) _ _ _ s
  case readStatus | setMask | setModes => exact .gatedClockIn (fun _ _ => ⟨rfl, rfl⟩) _ _ _ _ s
  case loadConfig => exact .gatedClockIn answerLoadConfig_sameMoment _ _ _ _ s
  case arm => exact .gatedClockIn (fun _ => answerArm_sameMoment) _ _ _ _ s
  case disarm => exact .gatedClockIn (fun _ => answerDisarm_sameMoment) _ _ _ _ s
  case resync => exact .gatedClockIn (fun _ => answerResync_sameMoment) _ _ _ _ s
  case takeResults => exact .gatedClockIn (fun _ => answerTakeResults_sameMoment _) _ _ _ _ s
  case takeRuns => exact .gatedClockIn (fun _ => answerTakeRuns_sameMoment _) _ _ _ _ s
  case acknowledge => exact .gatedClockIn (fun _ => answerAcknowledge_sameMoment) _ _ _ _ s
  case endService => exact .gatedClockIn (fun _ => answerEndService_sameMoment _) _ _ _ _ s
  case clearPending => exact .gatedClockIn (fun _ => answerClearPending_sameMoment _) _ _ _ _ s
  case historyWindow => exact .gatedClockIn (fun _ => answerHistoryWindow_sameMoment _ _) _ _ _ _ s
  case historyRead => exact .gatedClockIn (fun _ => answerHistoryRead_sameMoment _) _ _ _ _ s

/-- STALE lets time pass and leaves the queue (log 2). -/
theorem exec_stale_pending (s : State) : ∃ t, exec .stale s = .next t ∧ t.pending = s.pending := by
  refine ⟨_, rfl, State.powered_of (P := fun t => t.pending = s.pending) rfl ?_⟩
  split
  · exact s.elapse_pending _
  · rfl

/-- VALVE_EXPIRY lets time pass and leaves the queue (log 2). -/
theorem exec_valveExpiry_pending (x : Nozzle) (s : State) :
    ∃ t, exec (.valveExpiry x) s = .next t ∧ t.pending = s.pending :=
  ⟨_, rfl, State.powered_of (P := fun t => t.pending = s.pending) rfl (s.elapse_pending _)⟩

/-- Settles O3: every command keeps the moment but STALE and VALVE_EXPIRY, which keep the queue. -/
theorem everyCommandCompletes : Obligations.EveryCommandCompletes := by
  intro c s
  by_cases stale : c = .stale
  · obtain ⟨t, next, queue⟩ := exec_stale_pending s
    exact ⟨t, stale ▸ next, queue, fun notStale => absurd stale notStale⟩
  by_cases expiry : ∃ x, c = .valveExpiry x
  · obtain ⟨x, rfl⟩ := expiry
    obtain ⟨t, next, queue⟩ := exec_valveExpiry_pending x s
    exact ⟨t, next, queue, fun _ notExpiry => absurd rfl (notExpiry x)⟩
  obtain ⟨t, next, moment⟩ := exec_sameMoment stale (not_exists.1 expiry) s
  exact ⟨t, next, moment.pending, fun _ _ => moment.timer⟩

end Sys2Proof.Machine
end
